-- ==== Sys2Proof/Word.lean ====
section
/-! DEFINITION. The two words of the node: a byte of the strand line and a set of segments. -/

namespace Sys2Proof

/-- One byte of a frame (R86). -/
abbrev Byte := BitVec 8

/-- A set of the eight segments, bit s for segment s: a blind mask (R20), a stale set (R38),
the segments an arrival marks as withheld (R41). -/
abbrev SegMask := BitVec 8

end Sys2Proof
end

