-- ==== Sys2Proof/Config.lean ====
section
/-! DEFINITION. The limits the manual fixes, the design revision, and the one free value. -/

namespace Sys2Proof.Config

/-- Largest node time: 48 bits (R1; log 1). -/
def timeLimit : Nat := 2 ^ 48 - 1

/-- Largest encoder count (R2); the smallest is `-countMax - 1`. -/
def countMax : Int := 2 ^ 47 - 1

/-- Largest position (00, "Positions"); the smallest is `-posMax - 1`. -/
def posMax : Int := 2 ^ 31 - 1

/-- Largest cut number (R15). -/
def cutMax : Nat := 2 ^ 31 - 1

/-- Where every counter stays (00, "Counters"; R201). -/
def counterMax : Nat := 65535

/-- Columns of a line, columns of a segment (00, "Terms"). -/
def columns : Nat := 2048
def segColumns : Nat := 256

/-- Consecutive timeouts that make a head fault (R26). -/
def faultTimeouts : Nat := 16

/-- Readouts of a whole reference, and the fewest that are accepted (R33). -/
def fullReadouts : Nat := 16
def acceptReadouts : Nat := 8

/-- Wait for an answer of the head (R20, R24, R27), and the probe period (R26, R27), in ms. -/
def headWait : Nat := 20
def probePeriod : Nat := 100

/-- Period of the ANNOUNCE repeats, in ms (R190). -/
def announcePeriod : Nat := 1000

/-- Runs kept of a line (R48), slots of the trace table (R59), lines at which a trace splits (R71). -/
def runLimit : Nat := 16
def traceSlots : Nat := 32
def splitLines : Nat := 4096

/-- Pending ticks at most (R29). -/
def tickLimit : Nat := 8

/-- Transmit queue (R88), receive buffer (R95), note list (R123), peer table (R111). -/
def queueLimit : Nat := 16
def bufferLimit : Nat := 68
def noteLimit : Nat := 8
def peerLimit : Nat := 8

/-- Pending list (R134), strand record (R137), billet table (R152), mark queue (R178),
start history (R182). -/
def pendingLimit : Nat := 64
def recordLimit : Nat := 256
def billetLimit : Nat := 16
def markLimit : Nat := 32
def historyLimit : Nat := 4

/-- Largest node ID (00, "What the part is for"). -/
def idMax : Nat := 26

/-- The revision an ANNOUNCE carries (R206). -/
def revision : Nat := 1

/-- FREE VALUE. M of a gain build in whose every accumulated line every column was blind: R53 takes
the mean over the pixels with a sample and there is none. Applied to the count of free values
drawn before (log 15). -/
opaque meanOfNoPixel : Nat → Int

end Sys2Proof.Config
end

