-- ==== Sys2Proof/Syntax.lean ====
section
/-! DEFINITION. The commands of the node: one constructor for each row of spec/opcode_table.json. -/

namespace Sys2Proof

/-- A frame as it ended on the line: its characters in order, and whether one of them was broken
(R86). Characters beyond 68 are listed too, the buffer only counts them (R95). -/
structure RxFrame where
  chars  : List Byte
  broken : Bool
  deriving DecidableEq, Repr

/-- What an ID strap reads (R188): low 0, open 1, high 2. -/
inductive StrapLevel
  | low | floating | high
  deriving DecidableEq, Repr

/-- The strap pins as read at the end of a reset (R188). -/
structure Straps where
  id2     : StrapLevel
  id1     : StrapLevel
  id0     : StrapLevel
  strand2 : Bool
  strand1 : Bool
  strand0 : Bool
  face1   : Bool
  face0   : Bool
  deriving DecidableEq, Repr

/-- One command for each row of the table. The first operand `dt` of each is the milliseconds of
node time that have passed since the command before it (log 1). -/
inductive Instr
  /-- ENCODER_TRANSITION (R2): the encoder inputs now show the pair `a`, `b`. -/
  | encoderTransition (dt : Nat) (a b : Bool)
  /-- STRAND_RISE (R10). -/
  | strandRise (dt : Nat)
  /-- STRAND_FALL (R11). -/
  | strandFall (dt : Nat)
  /-- DROPOUT_TIMER_EXPIRY (R11). -/
  | dropoutTimerExpiry (dt : Nat)
  /-- GATE_CHANGE (R12): the gate input is now `high`. -/
  | gateChange (dt : Nat) (high : Bool)
  /-- CUT_INPUT_EDGE (R13): the cut input is now `high`. -/
  | cutInputEdge (dt : Nat) (high : Bool)
  /-- LINE_ARRIVAL (R21): the tag, the 2048 raw values, the withheld segments. -/
  | lineArrival (dt : Nat) (tag : BitVec 8) (raw : List (BitVec 12)) (withheld : SegMask)
  /-- LINE_TIMEOUT (R22). -/
  | lineTimeout (dt : Nat)
  /-- REFERENCE_READOUT (R24): the tag and the raw values of the pixels in scope, 256 or 2048. -/
  | referenceReadout (dt : Nat) (tag : BitVec 8) (raw : List (BitVec 12))
  /-- READOUT_TIMEOUT (R25). -/
  | readoutTimeout (dt : Nat)
  /-- PROBE_TIMER_EXPIRY (R27). -/
  | probeTimerExpiry (dt : Nat)
  /-- PROBE_TIMEOUT (R27). -/
  | probeTimeout (dt : Nat)
  /-- PROBE_ARRIVAL (R27): a line arrival that answers a probe. -/
  | probeArrival (dt : Nat) (tag : BitVec 8) (raw : List (BitVec 12)) (withheld : SegMask)
  /-- TICK (R29). -/
  | tick (dt : Nat)
  /-- PROCESSED_LINE (R60): the tracer takes the oldest line handed to it. -/
  | processedLine (dt : Nat)
  /-- TRANSMIT_TRY (R89). -/
  | transmitTry (dt : Nat)
  /-- ARBITRATION_LOST (R91). -/
  | arbitrationLost (dt : Nat)
  /-- COLLISION (R92). -/
  | collision (dt : Nat)
  /-- FRAME_SENT_WHOLE (R94). -/
  | frameSentWhole (dt : Nat)
  /-- CUT_FRAME (R119): a frame of class code 1 ends. -/
  | cutFrame (dt : Nat) (frame : RxFrame)
  /-- FINDING_FRAME (R118): a frame of class code 2 ends. -/
  | findingFrame (dt : Nat) (frame : RxFrame)
  /-- HORIZON_FRAME (R112): a frame of class code 3 ends. -/
  | horizonFrame (dt : Nat) (frame : RxFrame)
  /-- VERDICT_FRAME (R170): a frame of class code 4 ends. -/
  | verdictFrame (dt : Nat) (frame : RxFrame)
  /-- ANNOUNCE_FRAME (R110): a frame of class code 5 ends. -/
  | announceFrame (dt : Nat) (frame : RxFrame)
  /-- STATUS_FRAME (R104): a frame of class code 6 ends. -/
  | statusFrame (dt : Nat) (frame : RxFrame)
  /-- SETUP_FRAME (R191): a frame of class code 7 ends. -/
  | setupFrame (dt : Nat) (frame : RxFrame)
  /-- BUILD_FRAME (R51): a frame of class code 8 ends. -/
  | buildFrame (dt : Nat) (frame : RxFrame)
  /-- STATUS_REQ_FRAME (R202): a frame of class code 9 ends. -/
  | statusReqFrame (dt : Nat) (frame : RxFrame)
  /-- SILENCE_TIMER_EXPIRY (R120): the silence timer of the peer with this ID. -/
  | silenceTimerExpiry (dt : Nat) (peer : Nat)
  /-- HORIZON_TIMER_EXPIRY (R125). -/
  | horizonTimerExpiry (dt : Nat)
  /-- ANNOUNCE_TIMER_EXPIRY (R190). -/
  | announceTimerExpiry (dt : Nat)
  /-- POWER_ON_RESET (R199). -/
  | powerOnReset (dt : Nat)
  /-- PIN_RESET (R199). -/
  | pinReset (dt : Nat)
  /-- RESET_END (R199): the reset ends and the straps are read. -/
  | resetEnd (dt : Nat) (straps : Straps)
  /-- NEW_FRAME_BEGINS (R95). -/
  | newFrameBegins (dt : Nat)
  /-- IDLE_GAP_AFTER_RESET (R95). -/
  | idleGapAfterReset (dt : Nat)
  /-- FRAME_OF_UNDEFINED_CLASS (R97): a frame of class code 0 or 10 to 15, or of no character,
  ends. -/
  | frameOfUndefinedClass (dt : Nat) (frame : RxFrame)
  deriving DecidableEq, Repr

end Sys2Proof
end

