-- ==== Sys2Proof/Machine/State.lean ====
section
/-! DEFINITION. The node's state: everything spec/ gives it, block by block, as plain data, and the
state right after a power-on reset. -/

namespace Sys2Proof.Machine

open Sys2Proof

/-- The manual names no event that stops the node: trouble is a flag, a counter, a LOSS or a mode.
No constructor, so no meaning raises one. -/
inductive Fault
  deriving DecidableEq, Repr

/-- Why a command has no meaning. -/
inductive Refusal
  /-- Raised by an arm of `exec` whose command has no meaning yet. Safe: nothing is claimed of it. -/
  | notModelled (mnemonic : String)
  deriving DecidableEq, Repr

/-! ### Names -/

/-- The six node modes (section 10.1). -/
inductive Mode
  | unstrapped | unconfigured | referencing | waiting | inspecting | headFault
  deriving DecidableEq, Repr

/-- The kind of a reset (R199). -/
inductive ResetCause
  | power | pin
  deriving DecidableEq, Repr

inductive Polarity
  | dark | bright
  deriving DecidableEq, Repr

inductive LutCurve
  | linear | root | log | step
  deriving DecidableEq, Repr

inductive StrandPresent
  | asserted | clear
  deriving DecidableEq, Repr

inductive GateState
  | opened | shut
  deriving DecidableEq, Repr

inductive SegState
  | current | due | blind
  deriving DecidableEq, Repr

inductive BuildState
  | idle | busy | done | aborted
  deriving DecidableEq, Repr

inductive CloseKind
  | strandEnd | headFault
  deriving DecidableEq, Repr

inductive FindingClass
  | longitudinal | transverse | corner | minor
  deriving DecidableEq, Repr

inductive LineState
  | idle | busy
  deriving DecidableEq, Repr

inductive SendState
  | empty | waiting | sending
  deriving DecidableEq, Repr

/-- Address modes by their codes (R87): 00, 01, 10, 11. -/
inductive AddressMode
  | invalid | individual | strandGroup | all
  deriving DecidableEq, Repr

inductive PeerState
  | joining | live | silent
  deriving DecidableEq, Repr

inductive BilletState
  | opened | cut | due | reported
  deriving DecidableEq, Repr

inductive Grade
  | accept | review | reject
  deriving DecidableEq, Repr

inductive Direction
  | forward | reverse
  deriving DecidableEq, Repr

inductive Switch
  | on | off
  deriving DecidableEq, Repr

/-- The eleven diagnostic flags, in the order of their bits (R203). -/
inductive DiagFlag
  | length | check | form | state | idClash | faceConflict | peerOverflow | cutConflict
  | verdictMismatch | headFault | encoder
  deriving DecidableEq, Repr

/-- The 24 counters, in the order of the STATUS body (R203). -/
inductive Counter
  | length | check | form | state | txCollision | txDrop | txOverrun | late | unplaced | missed
  | traceOverflow | runOverflow | lineOverrun | lineTimeout | encFault | slip | dismissed
  | pendingOverflow | recordEvict | cutBounce | verdictLost | markSkipped | markLate | markPartial
  deriving DecidableEq, Repr

/-! ### Setup values (R191) -/

/-- The 36 values of one SETUP body. -/
structure Setup where
  countsPerMetre     : Nat
  linePitch          : Nat
  polarity           : Polarity
  lutCurve           : LutCurve
  cutReporting       : Bool
  gateUsed           : Bool
  synthetic          : Bool
  runThreshold       : Nat
  s1                 : Nat
  s2                 : Nat
  s3                 : Nat
  columnTolerance    : Nat
  gapLines           : Nat
  cornerZone         : Nat
  transverseExtent   : Nat
  longitudinalLength : Nat
  mergeTolerance     : Nat
  slipTolerance      : Nat
  cutTolerance       : Nat
  minCutSpacing      : Nat
  firstCut           : Nat
  torchOffset        : Nat
  markerOffset       : Nat
  markSeverity       : Nat
  rejectSeverity     : Nat
  faceMask           : BitVec 4
  minMarkLength      : Nat
  markMergeGap       : Nat
  markWindow         : Nat
  referenceInterval  : Nat
  postponeLimit      : Nat
  silenceTimeout     : Nat
  horizonStep        : Nat
  horizonPeriod      : Nat
  dropoutTime        : Nat
  coverageMinimum    : Nat
  deriving DecidableEq, Repr

/-! ### Findings and entries (R78, R130) -/

/-- The flags of a trace (section 4.1) and of a finding (R205, byte 18). The corner flags are clear
in a trace. -/
structure FindingFlags where
  unverified  : Bool := false
  branched    : Bool := false
  continued   : Bool := false
  interrupted : Bool := false
  cornerLow   : Bool := false
  cornerHigh  : Bool := false
  crowded     : Bool := false
  held        : Bool := false
  deriving DecidableEq, Repr

/-- A finding with its fields (R78) and the record unit's marks (R130). -/
structure Finding where
  origin     : Nat
  id         : Nat
  face       : Nat
  cls        : FindingClass
  severity   : Nat
  start      : Int
  stop       : Int
  colMin     : Nat
  colMax     : Nat
  peak       : Nat
  lines      : Nat
  flags      : FindingFlags
  secondFace : Option Nat := none
  late       : Bool := false
  test       : Bool := false
  merged     : Option (Nat × Nat) := none
  deriving DecidableEq, Repr

/-- An element of the pending list or of the strand record (R130). A GAP is open while `stop` is
absent. -/
inductive Entry
  | finding (f : Finding)
  | loss (origin : Nat) (start stop : Int)
  | gap (face subject : Nat) (start : Int) (stop : Option Int)
  deriving DecidableEq, Repr

/-! ### Lines, runs and traces -/

/-- A run of one line (R47). -/
structure Run where
  lo   : Nat
  hi   : Nat
  peak : Nat
  deriving DecidableEq, Repr

/-- What the corrector hands the tracer (R50). -/
structure ProcessedLine where
  position  : Int
  runs      : List Run
  blind     : SegMask
  stale     : SegMask
  crowded   : Bool
  synthetic : Bool
  deriving DecidableEq, Repr

/-- An open trace (section 4.1). -/
structure Trace where
  first  : Int
  last   : Int
  spanLo : Nat
  spanHi : Nat
  extent : Option (Nat × Nat)
  peak   : Nat
  lines  : Nat
  idle   : Nat
  flags  : FindingFlags
  deriving DecidableEq, Repr

/-- The latest forced close (section 4.1). -/
structure LastClose where
  kind     : CloseKind
  position : Int
  deriving DecidableEq, Repr

/-! ### The sensor port -/

/-- The scope of a reference (R24). -/
inductive Scope
  | segment (s : Fin 8)
  | all
  deriving DecidableEq, Repr

structure LineInFlight where
  position    : Int
  tag         : BitVec 8
  blind       : SegMask
  requestedAt : Nat
  deriving DecidableEq, Repr

structure Reference where
  scope : Scope
  tag   : BitVec 8
  taken : Nat
  due   : Nat
  deriving DecidableEq, Repr

structure Probe where
  tag         : BitVec 8
  requestedAt : Nat
  deriving DecidableEq, Repr

/-- What the node sends its head (section 2.1). -/
inductive PortMessage
  | lineRequest (tag : BitVec 8) (blind : SegMask)
  | referenceRequest (tag : BitVec 8) (scope : Scope)
  | referenceStop (tag : BitVec 8)
  | probeRequest (tag : BitVec 8) (blind : SegMask)
  deriving DecidableEq, Repr

/-- The record of one segment (section 2.5). -/
structure Segment where
  state         : SegState := .current
  lastReference : Option Nat := none
  postponed     : Nat := 0
  deriving DecidableEq, Repr

/-! ### Frames to send -/

/-- A verdict as R168 lays it out. -/
structure Verdict where
  number       : Nat
  strand       : Nat
  length       : Int
  longitudinal : Nat
  transverse   : Nat
  corner       : Nat
  minor        : Nat
  maxSeverity  : Nat
  grade        : Grade
  coverage     : Nat
  incomplete   : Bool
  truncated    : Bool
  unverified   : Bool
  late         : Bool
  test         : Bool
  total        : Nat
  deriving DecidableEq, Repr

/-- The body of a frame handed to the transceiver. HORIZON is handed without a body (R88); a FINDING
carries beside the finding how many findings were made before it since reset (log 20). -/
inductive TxBody
  | cut (number : Nat) (position : Int)
  | finding (f : Finding) (ordinal : Nat)
  | horizon
  | verdict (v : Verdict)
  | announce (id strand face : Nat) (cause : ResetCause) (mode : Mode)
  | status (bytes : List Byte)
  deriving DecidableEq, Repr

/-- A frame in the transmit queue (R88). -/
structure TxFrame where
  address : AddressMode
  target  : Nat
  test    : Bool
  body    : TxBody
  deriving DecidableEq, Repr

/-- The taken copy (R89), and the clear-to a HORIZON body carries before it is laid out in bytes. -/
structure TakenCopy where
  head    : List Byte
  body    : List Byte
  check   : List Byte
  clearTo : Option Int
  deriving DecidableEq, Repr

/-! ### Peers, notes, billets, marks -/

/-- A LOSS range awaiting delivery (R123). -/
structure Note where
  start : Int
  stop  : Int
  deriving DecidableEq, Repr

/-- A peer record (section 6.1) with its silence timer (R109, R120). -/
structure Peer where
  id         : Nat
  face       : Option Nat
  state      : PeerState
  lastHeard  : Nat
  offset     : Option Int
  clearTo    : Option Int
  covering   : Bool
  nextId     : Option Nat
  openGap    : Option (Nat × Int)
  silenceDue : Option Nat
  deriving DecidableEq, Repr

/-- A billet record (section 8.1). -/
structure Billet where
  number      : Nat
  head        : Int
  tail        : Option Int
  state       : BilletState
  truncated   : Bool
  verdictSent : Bool
  sent        : Option Verdict
  deriving DecidableEq, Repr

/-- A mark entry (section 9.1). -/
structure Mark where
  start : Int
  stop  : Int
  deriving DecidableEq, Repr

/-! ### The blocks -/

/-- Levels of the five inputs; `true` is high. -/
structure Pins where
  encA   : Bool
  encB   : Bool
  strand : Bool
  gate   : Bool
  cut    : Bool
  deriving DecidableEq, Repr

/-- Mode controller (section 10.1). -/
structure Controller where
  mode          : Mode
  nodeId        : Option Nat
  strand        : Nat
  face          : Nat
  cause         : ResetCause
  setup         : Option Setup
  announceTimer : Option Nat
  covering      : Bool
  deriving DecidableEq, Repr

/-- Travel unit (section 1.1). -/
structure Travel where
  count      : Int
  phase      : Bool × Bool
  position   : Int
  highWater  : Int
  lastLine   : Int
  strand     : StrandPresent
  dropout    : Option Nat
  gate       : GateState
  cutLevel   : Bool
  cutCounter : Option Nat
  lastCut    : Option Int
  deriving DecidableEq, Repr

/-- Head port (section 2.1). `sent` lists what the last command put on the sensor port (log 19). -/
structure HeadPort where
  tag        : BitVec 8
  line       : Option LineInFlight
  timeouts   : Nat
  reference  : Option Reference
  probe      : Option Probe
  probeTimer : Option Nat
  sent       : List PortMessage
  deriving DecidableEq, Repr

/-- Reference scheduler (section 2.5). `accum` holds one sum for each pixel of the scope; the readouts
taken stand in the reference outstanding (log 29). -/
structure Scheduler where
  segs       : List Segment
  pointer    : Fin 8
  ticks      : Nat
  tickTimer  : Option Nat
  allRunning : Bool
  accum      : List Nat
  deriving DecidableEq, Repr

/-- Line corrector (section 3.1); its setup values stand in the mode controller's setup (log 29). -/
structure Corrector where
  dark    : List Nat
  gain    : List Nat
  build   : BuildState
  target  : Option Nat
  lines   : Nat
  sums    : List Int
  samples : List Nat
  deriving DecidableEq, Repr

/-- Tracer (section 4.1), the processed lines that await it, oldest first (log 25), and the findings
made since reset (log 20). -/
structure Tracer where
  slots     : List (Option Trace)
  nextId    : Nat
  made      : Nat
  lastClose : Option LastClose
  awaiting  : List ProcessedLine
  deriving DecidableEq, Repr

/-- Transceiver (section 5.2). `firstGap` is set while the first idle gap after a reset is awaited,
`ending` while a frame that ended at the idle gap of the try in progress is yet to be qualified (log 38). -/
structure Transceiver where
  line       : LineState
  firstGap   : Bool
  ending     : Bool
  buffer     : List Byte
  beyond     : Nat
  broken     : Bool
  queue      : List TxFrame
  send       : SendState
  collisions : Nat
  taken      : Option TakenCopy
  deriving DecidableEq, Repr

/-- Horizon unit (section 6.1). -/
structure HorizonUnit where
  peers      : List Peer
  ownClearTo : Int
  horizon    : Int
  ownGap     : Option Int
  notes      : List Note
  inDelivery : Option Note
  lastSent   : Option Int
  timer      : Option Nat
  deriving DecidableEq, Repr

/-- Record unit (section 7.2). -/
structure RecordUnit where
  pending  : List Entry
  overflow : Option (Int × Int)
  entries  : List Entry
  deriving DecidableEq, Repr

/-- Billet unit (section 8.1). -/
structure BilletUnit where
  billets : List Billet
  floor   : Option Int
  deriving DecidableEq, Repr

/-- Marker unit (section 9.1). -/
structure MarkerUnit where
  queue     : List Mark
  active    : Option Mark
  history   : List Nat
  direction : Direction
  output    : Switch
  deriving DecidableEq, Repr

/-- Diagnostics (section 11.1). -/
structure Diagnostics where
  flags    : Vector Bool 11
  counters : Vector Nat 24
  deriving DecidableEq, Repr

/-- The node and the queue of commands that wait for it, first in, first out. -/
structure State where
  pending   : List Instr
  nodeTime  : Nat
  resetting : Option ResetCause
  freeDraws : Nat
  pins      : Pins
  ctl       : Controller
  travel    : Travel
  head      : HeadPort
  sched     : Scheduler
  corr      : Corrector
  tracer    : Tracer
  xcvr      : Transceiver
  hz        : HorizonUnit
  record    : RecordUnit
  billet    : BilletUnit
  marker    : MarkerUnit
  diag      : Diagnostics
  deriving DecidableEq, Repr

/-- The state right after a power-on reset, every input low, the straps reading ID 1, strand 1 and
face 0 (DESIGN CHOICE, log 5): R17, R40, R57, R85, R107, R129, R151, R175, R187, R199, R208, and the
ANNOUNCE of R190 in the transmit queue. -/
def State.reset : State where
  pending := []
  nodeTime := 0
  resetting := none
  freeDraws := 0
  pins := { encA := false, encB := false, strand := false, gate := false, cut := false }
  ctl := { mode := .unconfigured, nodeId := some 1, strand := 1, face := 0, cause := .power,
           setup := none, announceTimer := some Config.announcePeriod, covering := false }
  travel := { count := 0, phase := (false, false), position := 0, highWater := 0, lastLine := 0,
              strand := .clear, dropout := none, gate := .opened, cutLevel := false,
              cutCounter := none, lastCut := none }
  head := { tag := 0, line := none, timeouts := 0, reference := none, probe := none,
            probeTimer := none, sent := [] }
  sched := { segs := List.replicate 8 {}, pointer := 0, ticks := 0, tickTimer := none,
             allRunning := false, accum := [] }
  corr := { dark := List.replicate Config.columns 0, gain := List.replicate Config.columns 1024,
            build := .idle, target := none, lines := 0, sums := List.replicate Config.columns 0,
            samples := List.replicate Config.columns 0 }
  tracer := { slots := List.replicate Config.traceSlots none, nextId := 0, made := 0,
              lastClose := none, awaiting := [] }
  xcvr := { line := .busy, firstGap := true, ending := false, buffer := [], beyond := 0, broken := false,
            queue := [{ address := .all, target := 0, test := false,
                        body := .announce 1 1 0 .power .unconfigured }],
            send := .waiting, collisions := 0, taken := none }
  hz := { peers := [], ownClearTo := 0, horizon := 0, ownGap := none, notes := [],
          inDelivery := none, lastSent := none, timer := none }
  record := { pending := [], overflow := none, entries := [] }
  billet := { billets := [], floor := none }
  marker := { queue := [], active := none, history := [], direction := .forward, output := .off }
  diag := { flags := Vector.replicate 11 false, counters := Vector.replicate 24 0 }

end Sys2Proof.Machine
end

