-- ==== Sys2Proof/Machine/Bits.lean ====
section
/-! DEFINITION. Byte order, fields of bytes, the check of a frame, and numbers held within limits. -/

namespace Sys2Proof.Machine

/-- `v` held within `lo` to `hi`. -/
def hold (lo hi v : Int) : Int := max lo (min hi v)

/-- A position held within 32 signed bits (R4, R108). -/
def holdPosition (v : Int) : Int := hold (-Config.posMax - 1) Config.posMax v

/-- The largest multiple of `pitch` at or below `v` (R6, R7, R82). -/
def floorTo (pitch : Nat) (v : Int) : Int := v / (pitch : Int) * (pitch : Int)

/-- The low byte of a number. -/
def byteOf (n : Nat) : Byte := BitVec.ofNat 8 n

/-- `n` bytes of a number, most significant first (R204). -/
def bytesBE : Nat → Nat → List Byte
  | 0, _ => []
  | n + 1, v => bytesBE n (v / 256) ++ [byteOf v]

/-- The number that bytes spell, most significant first (R204). -/
def natBE (bs : List Byte) : Nat := bs.foldl (fun acc b => acc * 256 + b.toNat) 0

/-- 32-bit two's complement (R204). -/
def bits32 (v : Int) : Nat := (v % 2 ^ 32).toNat

def positionBytes (v : Int) : List Byte := bytesBE 4 (bits32 v)

/-- The signed value of 32 bits (R204). -/
def signed32 (n : Nat) : Int := if n < 2 ^ 31 then (n : Int) else (n : Int) - 2 ^ 32

/-- The field of `n` bytes that begins at byte `start` of a body. -/
def fieldAt (body : List Byte) (start n : Nat) : Nat := natBE ((body.drop start).take n)

def positionAt (body : List Byte) (start : Nat) : Int := signed32 (fieldAt body start 4)

/-- Bit i of a number. -/
def bitAt (n i : Nat) : Bool := n / 2 ^ i % 2 == 1

/-- 2^i where the bit is set. -/
def bitValue (b : Bool) (i : Nat) : Nat := if b then 2 ^ i else 0

/-- One shift of the check register with generator 8005H (R87). -/
def crcShift (reg : BitVec 16) : BitVec 16 :=
  if reg.msb then (reg <<< 1) ^^^ 0x8005#16 else reg <<< 1

def crcByte (reg : BitVec 16) (b : Byte) : BitVec 16 :=
  Nat.repeat crcShift 8 (reg ^^^ (b.setWidth 16 <<< 8))

/-- The check over head and body, from a register of all ones (R87). -/
def crc (bytes : List Byte) : BitVec 16 := bytes.foldl crcByte 0xFFFF#16

/-- Bit s of a set of segments. -/
def SegMask.has (m : SegMask) (s : Nat) : Bool := m.getLsbD s

/-- The set of the segments for which `p` holds. -/
def segMaskOf (p : Nat → Bool) : SegMask :=
  BitVec.ofNat 8 ((List.range 8).foldl (fun acc s => acc + bitValue (p s) s) 0)

/-- The segment of a column (00, "Segment"). -/
def segOf (column : Nat) : Nat := column / Config.segColumns

end Sys2Proof.Machine
end

