-- ==== Sys2Proof/Machine/Flags.lean ====
section
/-! DEFINITION. The diagnostic flags and the counters: where each stands and the three operations on
them (R200, R201). -/

namespace Sys2Proof.Machine

/-- The bit of a flag (R203). -/
def DiagFlag.index : DiagFlag → Fin 11
  | .length => 0 | .check => 1 | .form => 2 | .state => 3 | .idClash => 4 | .faceConflict => 5
  | .peerOverflow => 6 | .cutConflict => 7 | .verdictMismatch => 8 | .headFault => 9
  | .encoder => 10

/-- The place of a counter in the STATUS body (R203). -/
def Counter.index : Counter → Fin 24
  | .length => 0 | .check => 1 | .form => 2 | .state => 3 | .txCollision => 4 | .txDrop => 5
  | .txOverrun => 6 | .late => 7 | .unplaced => 8 | .missed => 9 | .traceOverflow => 10
  | .runOverflow => 11 | .lineOverrun => 12 | .lineTimeout => 13 | .encFault => 14 | .slip => 15
  | .dismissed => 16 | .pendingOverflow => 17 | .recordEvict => 18 | .cutBounce => 19
  | .verdictLost => 20 | .markSkipped => 21 | .markLate => 22 | .markPartial => 23

/-- Is the flag set? -/
def State.flag (s : State) (f : DiagFlag) : Bool := s.diag.flags[f.index]

/-- The value of a counter. -/
def State.counter (s : State) (c : Counter) : Nat := s.diag.counters[c.index]

/-- Setting a flag (R200). -/
def State.setFlag (s : State) (f : DiagFlag) : State :=
  { s with diag := { s.diag with flags := s.diag.flags.set f.index true } }

/-- A counter counts n times and stays at 65535 (R201). -/
def State.countBy (s : State) (c : Counter) (n : Nat) : State :=
  { s with diag := { s.diag with
      counters := s.diag.counters.set c.index (min Config.counterMax (s.counter c + n)) } }

def State.count (s : State) (c : Counter) : State := s.countBy c 1

/-- All eleven flags cleared (R202). -/
def State.clearFlags (s : State) : State :=
  { s with diag := { s.diag with flags := Vector.replicate 11 false } }

/-- Is at least one of the four link flags set? The fault bit (R89). -/
def State.linkFault (s : State) : Bool :=
  s.flag .length || s.flag .check || s.flag .form || s.flag .state

/-- A received frame failing a check: its flag and its counter (R103). -/
def State.linkFailure (s : State) (f : DiagFlag) (c : Counter) : State := (s.setFlag f).count c

end Sys2Proof.Machine
end

