-- ==== Sys2Proof/Machine/Operands.lean ====
section
/-! DEFINITION. The frames of the strand line: heads, the nine bodies in bytes (R87, R204 to R207), and
the FORM check of each class (R101). -/

namespace Sys2Proof.Machine

/-! ### Codes (R204) -/

/-- The class of a frame; `undefined` stands for the codes 0 and 10 to 15. -/
inductive FrameClass
  | cut | finding | horizon | verdict | announce | status | setup | build | statusReq | undefined
  deriving DecidableEq, Repr

def TxBody.classCode : TxBody → Nat
  | .cut _ _ => 1
  | .finding _ _ => 2
  | .horizon => 3
  | .verdict _ => 4
  | .announce _ _ _ _ _ => 5
  | .status _ => 6

def Mode.code : Mode → Nat
  | .unstrapped => 0 | .unconfigured => 1 | .referencing => 2 | .waiting => 3 | .inspecting => 4
  | .headFault => 5

def modeCodeOk (n : Nat) : Bool := n ≤ 5

def FindingClass.code : FindingClass → Nat
  | .longitudinal => 0 | .transverse => 1 | .corner => 2 | .minor => 3

def findingClassOf (n : Nat) : FindingClass :=
  match n % 4 with
  | 0 => .longitudinal | 1 => .transverse | 2 => .corner | _ => .minor

def Grade.code : Grade → Nat
  | .accept => 0 | .review => 1 | .reject => 2

def gradeOf (n : Nat) : Grade :=
  match n with
  | 0 => .accept | 1 => .review | _ => .reject

def ResetCause.code : ResetCause → Nat
  | .power => 0 | .pin => 1

def AddressMode.code : AddressMode → Nat
  | .invalid => 0 | .individual => 1 | .strandGroup => 2 | .all => 3

def addressModeOf (n : Nat) : AddressMode :=
  match n % 4 with
  | 0 => .invalid | 1 => .individual | 2 => .strandGroup | _ => .all

def BuildState.code : BuildState → Nat
  | .idle => 0 | .busy => 1 | .done => 2 | .aborted => 3

def SegState.code : SegState → Nat
  | .current => 0 | .due => 1 | .blind => 2

/-- The flag byte of a FINDING body (R205, byte 18). -/
def FindingFlags.code (f : FindingFlags) : Nat :=
  bitValue f.unverified 0 + bitValue f.branched 1 + bitValue f.continued 2
    + bitValue f.interrupted 3 + bitValue f.cornerLow 4 + bitValue f.cornerHigh 5
    + bitValue f.crowded 6 + bitValue f.held 7

def findingFlagsOf (n : Nat) : FindingFlags where
  unverified := bitAt n 0
  branched := bitAt n 1
  continued := bitAt n 2
  interrupted := bitAt n 3
  cornerLow := bitAt n 4
  cornerHigh := bitAt n 5
  crowded := bitAt n 6
  held := bitAt n 7

/-- The union of two sets of flags (R62, R143). -/
def FindingFlags.union (a b : FindingFlags) : FindingFlags where
  unverified := a.unverified || b.unverified
  branched := a.branched || b.branched
  continued := a.continued || b.continued
  interrupted := a.interrupted || b.interrupted
  cornerLow := a.cornerLow || b.cornerLow
  cornerHigh := a.cornerHigh || b.cornerHigh
  crowded := a.crowded || b.crowded
  held := a.held || b.held

/-! ### Heads (R87, R204) -/

/-- The fields of a received head but its class. -/
structure FrameHead where
  sender  : Nat
  fault   : Bool
  address : AddressMode
  target  : Nat
  test    : Bool
  length  : Nat
  deriving DecidableEq, Repr

/-- The three head bytes of a frame the node takes. -/
def headBytes (classCode sender : Nat) (fault : Bool) (address : AddressMode) (target : Nat)
    (test : Bool) (length : Nat) : List Byte :=
  [byteOf (classCode * 16 + sender / 2),
   byteOf (sender % 2 * 128 + bitValue fault 6 + address.code * 16 + target / 2),
   byteOf (target % 2 * 128 + bitValue test 6 + length)]

/-- The head of a received frame. -/
def parseHead (chars : List Byte) : FrameHead :=
  let b0 := fieldAt chars 0 1
  let b1 := fieldAt chars 1 1
  let b2 := fieldAt chars 2 1
  { sender := b0 % 16 * 2 + b1 / 128
    fault := bitAt b1 6
    address := addressModeOf (b1 / 16)
    target := b1 % 16 * 2 + b2 / 128
    test := bitAt b2 6
    length := b2 % 64 }

/-! ### Bodies the node sends (R205, R206) -/

def cutBytes (number : Nat) (position : Int) : List Byte :=
  bytesBE 4 number ++ positionBytes position ++ [byteOf 1]

def findingBytes (f : Finding) : List Byte :=
  [byteOf f.origin] ++ bytesBE 2 f.id
    ++ [byteOf (f.face % 4 * 16 + f.cls.code * 4 + f.severity % 4)]
    ++ positionBytes f.start ++ positionBytes f.stop
    ++ bytesBE 3 (f.colMin * 4096 + f.colMax)
    ++ [byteOf f.peak] ++ bytesBE 2 f.lines ++ [byteOf f.flags.code]

def verdictBytes (v : Verdict) : List Byte :=
  bytesBE 4 v.number ++ [byteOf v.strand] ++ positionBytes v.length
    ++ [byteOf v.longitudinal, byteOf v.transverse, byteOf v.corner, byteOf v.minor,
        byteOf (v.maxSeverity * 16 + v.grade.code)]
    ++ bytesBE 2 v.coverage
    ++ [byteOf (bitValue v.incomplete 0 + bitValue v.truncated 1 + bitValue v.unverified 2
          + bitValue v.late 3 + bitValue v.test 4)]
    ++ bytesBE 2 v.total

def announceBytes (id strand face : Nat) (cause : ResetCause) (mode : Mode) : List Byte :=
  [byteOf Config.revision, byteOf id, byteOf strand, byteOf face, byteOf cause.code,
   byteOf mode.code]

/-! ### Bodies received -/

/-- What a node reads of a HORIZON body (R205). -/
structure HorizonBody where
  stamp     : Int
  clearTo   : Int
  covering  : Bool
  lastValid : Bool
  lastId    : Nat
  note      : Option (Int × Int)
  deriving DecidableEq, Repr

def parseHorizon (body : List Byte) : HorizonBody :=
  let status := fieldAt body 8 1
  { stamp := positionAt body 0
    clearTo := positionAt body 4
    covering := bitAt status 4
    lastValid := bitAt status 1
    lastId := fieldAt body 10 2
    note := if bitAt status 0 then some (positionAt body 12, positionAt body 16) else none }

/-- The finding of a FINDING body, positions as sent; `test` is the head's test bit (R105). -/
def parseFinding (body : List Byte) (test : Bool) : Finding :=
  let b3 := fieldAt body 3 1
  let cols := fieldAt body 12 3
  { origin := fieldAt body 0 1
    id := fieldAt body 1 2
    face := b3 / 16 % 4
    cls := findingClassOf (b3 / 4)
    severity := b3 % 4
    start := positionAt body 4
    stop := positionAt body 8
    colMin := cols / 4096
    colMax := cols % 4096
    peak := fieldAt body 15 1
    lines := fieldAt body 16 2
    flags := findingFlagsOf (fieldAt body 18 1)
    test := test }

/-- The verdict of a VERDICT body (R206). -/
def parseVerdict (body : List Byte) : Verdict :=
  let flags := fieldAt body 16 1
  { number := fieldAt body 0 4
    strand := fieldAt body 4 1
    length := (fieldAt body 5 4 : Int)
    longitudinal := fieldAt body 9 1
    transverse := fieldAt body 10 1
    corner := fieldAt body 11 1
    minor := fieldAt body 12 1
    maxSeverity := fieldAt body 13 1 / 16
    grade := gradeOf (fieldAt body 13 1 % 16)
    coverage := fieldAt body 14 2
    incomplete := bitAt flags 0
    truncated := bitAt flags 1
    unverified := bitAt flags 2
    late := bitAt flags 3
    test := bitAt flags 4
    total := fieldAt body 17 2 }

/-- The SETUP body field by field (R207). -/
def parseSetup (body : List Byte) : Setup :=
  let option := fieldAt body 4 1
  let packed := fieldAt body 36 1
  { countsPerMetre := fieldAt body 0 3
    linePitch := fieldAt body 3 1
    polarity := if bitAt option 0 then .bright else .dark
    lutCurve := match option / 2 % 4 with
      | 0 => .linear | 1 => .root | 2 => .log | _ => .step
    cutReporting := bitAt option 3
    gateUsed := bitAt option 4
    synthetic := bitAt option 5
    runThreshold := fieldAt body 5 1
    s1 := fieldAt body 6 1
    s2 := fieldAt body 7 1
    s3 := fieldAt body 8 1
    columnTolerance := fieldAt body 9 1
    gapLines := fieldAt body 10 1
    cornerZone := fieldAt body 11 2
    transverseExtent := fieldAt body 13 2
    longitudinalLength := fieldAt body 15 2
    mergeTolerance := fieldAt body 17 2
    slipTolerance := fieldAt body 19 2
    cutTolerance := fieldAt body 21 2
    minCutSpacing := fieldAt body 23 3
    firstCut := fieldAt body 26 4
    torchOffset := fieldAt body 30 3
    markerOffset := fieldAt body 33 3
    markSeverity := packed / 64
    rejectSeverity := packed / 16 % 4
    faceMask := BitVec.ofNat 4 packed
    minMarkLength := fieldAt body 37 2
    markMergeGap := fieldAt body 39 2
    markWindow := fieldAt body 41 2
    referenceInterval := fieldAt body 43 2
    postponeLimit := fieldAt body 45 2
    silenceTimeout := fieldAt body 47 2
    horizonStep := fieldAt body 49 2
    horizonPeriod := fieldAt body 51 2
    dropoutTime := fieldAt body 53 2
    coverageMinimum := fieldAt body 55 2 }

/-- `lo ≤ v ≤ hi`. -/
def within (lo hi v : Nat) : Bool := lo ≤ v && v ≤ hi

/-- Every field within its range (R191), s1 < s2 < s3, and the silence timeout at least four horizon
periods (R101). -/
def Setup.inRange (v : Setup) : Bool :=
  within 1000 200000 v.countsPerMetre && within 1 100 v.linePitch && within 1 255 v.runThreshold
  && within 1 255 v.s1 && within 1 255 v.s2 && within 1 255 v.s3
  && v.s1 < v.s2 && v.s2 < v.s3
  && v.columnTolerance ≤ 16 && within 1 15 v.gapLines && within 16 256 v.cornerZone
  && within 64 2048 v.transverseExtent && within 100 50000 v.longitudinalLength
  && v.mergeTolerance ≤ 500 && within 1 500 v.slipTolerance && within 1 1000 v.cutTolerance
  && within 1000 200000 v.minCutSpacing && within 1 Config.cutMax v.firstCut
  && within 10000 600000 v.torchOffset
  && (v.markerOffset == 0 || within 1000 200000 v.markerOffset)
  && within 1 3 v.markSeverity && within 1 3 v.rejectSeverity && v.faceMask != 0
  && within 10 2000 v.minMarkLength && v.markMergeGap ≤ 2000 && within 500 10000 v.markWindow
  && within 10 600 v.referenceInterval && within 16 4096 v.postponeLimit
  && within 100 5000 v.silenceTimeout && within 100 10000 v.horizonStep
  && within 20 500 v.horizonPeriod && within 10 2000 v.dropoutTime && v.coverageMinimum ≤ 1000
  && 4 * v.horizonPeriod ≤ v.silenceTimeout

/-! ### FORM (R101) -/

/-- The address modes a class allows. -/
def FrameClass.allows (c : FrameClass) (a : AddressMode) : Bool :=
  match c with
  | .cut => a == .strandGroup
  | .finding => a == .strandGroup
  | .horizon => a == .strandGroup
  | .verdict => a == .all
  | .announce => a == .all
  | .status => a == .individual
  | .setup => a != .invalid
  | .build => a != .invalid
  | .statusReq => a == .individual
  | .undefined => false

/-- The body lengths a class allows. -/
def FrameClass.lengthOk (c : FrameClass) (n : Nat) : Bool :=
  match c with
  | .cut => n == 9
  | .finding => n == 19
  | .horizon => n == 12 || n == 21
  | .verdict => n == 19
  | .announce => n == 6
  | .status => n == 60
  | .setup => n == 57
  | .build => n == 1
  | .statusReq => n == 1
  | .undefined => false

/-- The body checks of a class. -/
def FrameClass.bodyOk (c : FrameClass) (sender : Nat) (body : List Byte) : Bool :=
  match c with
  | .cut => within 1 Config.cutMax (fieldAt body 0 4) && fieldAt body 8 1 ≤ 1
  | .finding =>
    fieldAt body 0 1 == sender && !bitAt (fieldAt body 3 1) 7
      && positionAt body 4 ≤ positionAt body 8
      && fieldAt body 12 3 / 4096 ≤ fieldAt body 12 3 % 4096
      && fieldAt body 12 3 % 4096 < Config.columns
      && within 1 4096 (fieldAt body 16 2)
  | .horizon =>
    modeCodeOk (fieldAt body 8 1 / 32)
      && bitAt (fieldAt body 8 1) 0 == (body.length == 21)
      && (body.length == 12 || positionAt body 12 ≤ positionAt body 16)
  | .verdict =>
    within 1 8 (fieldAt body 4 1) && fieldAt body 13 1 / 16 ≤ 3 && fieldAt body 13 1 % 16 ≤ 2
      && fieldAt body 14 2 ≤ 1000 && fieldAt body 16 1 < 32
  | .announce =>
    fieldAt body 1 1 == sender && within 1 8 (fieldAt body 2 1) && fieldAt body 3 1 ≤ 3
      && fieldAt body 4 1 ≤ 1 && modeCodeOk (fieldAt body 5 1)
  | .status => modeCodeOk (fieldAt body 0 1 % 8)
  | .setup => (parseSetup body).inRange && fieldAt body 4 1 < 64
  | .build => within 16 255 (fieldAt body 0 1)
  | .statusReq => fieldAt body 0 1 ≤ 1
  | .undefined => false

/-- A frame of class `c` that passes FORM (R101). -/
def formOk (c : FrameClass) (h : FrameHead) (body : List Byte) : Bool :=
  within 1 Config.idMax h.sender && c.allows h.address
    && (h.address != .all || h.target == 0)
    && c.lengthOk h.length && c.bodyOk h.sender body

end Sys2Proof.Machine
end

