-- ==== Sys2Proof/Machine/Ops.lean ====
section
/-! DEFINITION. What every command shares: the passing of node time, the reset gate, the sensor port,
the transmit queue, and the small readings other blocks take. -/

namespace Sys2Proof.Machine

/-! ### Node time and the reset gate -/

/-- `dt` milliseconds pass (R1; log 1), and the list of sensor-port messages starts afresh (log 19). -/
def State.begin (s : State) (dt : Nat) : State :=
  { s with
    nodeTime := min (s.nodeTime + dt) Config.timeLimit
    head := { s.head with sent := [] } }

/-- A command that changes no input: `f`, unless a reset is in progress (R199; log 4). -/
def event (dt : Nat) (f : State → State) (s : State) : Host.Outcome State Fault Refusal :=
  let t := s.begin dt
  .next (if t.resetting.isSome then t else f t)

/-- A command that changes an input: the input takes its level in every case, `f` follows unless a
reset is in progress (R17, R199; log 4). -/
def inputEvent (dt : Nat) (set : Pins → Pins) (f : State → State) (s : State) :
    Host.Outcome State Fault Refusal :=
  let t := { s.begin dt with pins := set s.pins }
  .next (if t.resetting.isSome then t else f t)

/-- Is a timer running and due? (log 3) -/
def dueBy (now : Nat) (timer : Option Nat) : Bool :=
  match timer with
  | some due => due ≤ now
  | none => false

/-! ### Readings -/

/-- The node's own ID; 0 stands for an absent one, which no frame is sent under
(log 32). -/
def State.ownId (s : State) : Nat := s.ctl.nodeId.getD 0

/-- The record of segment i. -/
def State.seg (s : State) (i : Fin 8) : Segment := s.sched.segs.getD i.val {}

/-- The set of BLIND segments (R20). -/
def State.blindSet (s : State) : SegMask :=
  segMaskOf fun i => (s.sched.segs.getD i {}).state == .blind

/-- Is a segment with this last reference stale? (R38) -/
def staleAt (now interval : Nat) (last : Option Nat) : Bool :=
  match last with
  | none => true
  | some t => t + 1500 * interval < now

/-- The stale set (R38). -/
def State.staleSet (s : State) : SegMask :=
  match s.ctl.setup with
  | none => 0
  | some v => segMaskOf fun i => staleAt s.nodeTime v.referenceInterval
      (s.sched.segs.getD i {}).lastReference

/-- Line positions of the unfinished lines (R82): the one in flight and those that await the tracer. -/
def State.unfinished (s : State) : List Int :=
  (s.head.line.map LineInFlight.position).toList ++ s.tracer.awaiting.map ProcessedLine.position

/-- The line frontier (R82). -/
def State.frontier (s : State) (v : Setup) : Int :=
  s.unfinished.foldl min
    (if s.ctl.mode = .inspecting then s.travel.lastLine else floorTo v.linePitch s.travel.highWater)

/-! ### The sensor port -/

/-- A message to the head (section 2.1). -/
def State.port (s : State) (m : PortMessage) : State :=
  { s with head := { s.head with sent := s.head.sent ++ [m] } }

/-! ### The transmit queue (R88) -/

def State.queueFull (s : State) : Bool := Config.queueLimit ≤ s.xcvr.queue.length

def TxFrame.isHorizon (f : TxFrame) : Bool := f.body == .horizon

def TxFrame.isAnnounce (f : TxFrame) : Bool :=
  match f.body with
  | .announce _ _ _ _ _ => true
  | _ => false

/-- A frame is handed to the transceiver: a second HORIZON is left out, a frame for a full queue is
refused with TX-OVERRUN, any other joins the newest end (R88). -/
def State.handFrame (s : State) (f : TxFrame) : State :=
  if f.isHorizon && s.xcvr.queue.any TxFrame.isHorizon then s
  else if s.queueFull then s.count .txOverrun
  else { s with xcvr := { s.xcvr with
          queue := s.xcvr.queue ++ [f]
          send := if s.xcvr.send = .empty then .waiting else s.xcvr.send } }

/-- A frame addressed to the node's own strand group (R87). -/
def State.toStrand (s : State) (test : Bool) (body : TxBody) : TxFrame :=
  { address := .strandGroup, target := s.ctl.strand - 1, test := test, body := body }

/-- A frame addressed to all stations (R87). -/
def toAll (test : Bool) (body : TxBody) : TxFrame :=
  { address := .all, target := 0, test := test, body := body }

/-- The ANNOUNCE of R190, with the node's mode. -/
def State.announce (s : State) : TxFrame :=
  toAll false (.announce s.ownId s.ctl.strand s.ctl.face s.ctl.cause s.ctl.mode)

end Sys2Proof.Machine
end

