-- ==== Sys2Proof/Machine/Marker.lean ====
section
/-! DEFINITION. The marker unit (chapter 9): making, merging, inserting and starting marks, and the
output while a mark is active. -/

namespace Sys2Proof.Machine

/-- The mark of a finding's stretch at the valve (R176). -/
def markOf (v : Setup) (start stop : Int) : Mark :=
  { start := min (start + v.markerOffset) Config.posMax
    stop := max (min (stop + v.markerOffset) Config.posMax)
      (min (start + v.markerOffset + v.minMarkLength) Config.posMax) }

/-- Four starts within the window that ends now (R181). -/
def windowFull (now window : Nat) (history : List Nat) : Bool :=
  match history with
  | [] => false
  | oldest :: _ => Config.historyLimit ≤ history.length && now ≤ oldest + window

/-- A start joins the history as its newest time (R182). -/
def pushStart (now : Nat) (history : List Nat) : List Nat :=
  if Config.historyLimit ≤ history.length then history.tail ++ [now] else history ++ [now]

/-- The start test on a queue, no mark being active (R179 to R182). `before` is the position before
the forward transition at which the test is made, absent at any other test. -/
def startFrom (v : Setup) (before : Option Int) : List Mark → State → State
  | [], s => { s with marker := { s.marker with queue := [] } }
  | m :: rest, s =>
    if m.stop < s.travel.position then startFrom v before rest (s.count .markLate)
    else if m.start ≤ s.travel.position ∧ s.marker.direction = .forward then
      if windowFull s.nodeTime v.markWindow s.marker.history then
        startFrom v before rest (s.count .markSkipped)
      else
        let started := { s with marker := { s.marker with
          queue := rest, active := some m, output := .on
          history := pushStart s.nodeTime s.marker.history } }
        if before.any (· < m.start) then started else started.count .markPartial
    else { s with marker := { s.marker with queue := m :: rest } }

/-- The start test of R179. -/
def State.startTest (s : State) (before : Option Int) : State :=
  match s.ctl.setup with
  | none => s
  | some v => if s.marker.active.isSome then s else startFrom v before s.marker.queue s

/-- The newest mark held (R177). -/
def MarkerUnit.newest (m : MarkerUnit) : Option Mark :=
  match m.queue.getLast? with
  | some q => some q
  | none => m.active

/-- Does a new mark join the mark `q`? (R177) -/
def Mark.joins (new q : Mark) (mergeGap : Nat) : Bool :=
  q.start ≤ new.start && new.start ≤ q.stop + mergeGap

/-- The newest mark held takes a later end (R177). -/
def MarkerUnit.extendNewest (m : MarkerUnit) (stop : Int) : MarkerUnit :=
  match m.queue.getLast? with
  | some q => { m with queue := m.queue.dropLast ++ [{ q with stop := max q.stop stop }] }
  | none => { m with active := m.active.map fun q => { q with stop := max q.stop stop } }

/-- A mark takes its place by mark start, after those of an equal start (R178). -/
def insertMark (new : Mark) : List Mark → List Mark
  | [] => [new]
  | m :: rest => if new.start < m.start then new :: m :: rest else m :: insertMark new rest

/-- A new mark: joined, dropped late, dropped for a full queue, or inserted and tested (R177, R178). -/
def State.offerMark (s : State) (v : Setup) (new : Mark) : State :=
  if s.marker.newest.any (new.joins · v.markMergeGap) then
    { s with marker := s.marker.extendNewest new.stop }
  else if new.stop < s.travel.position then s.count .markLate
  else if Config.markLimit ≤ s.marker.queue.length then s.count .markSkipped
  else
    { s with marker := { s.marker with queue := insertMark new s.marker.queue } }.startTest none

/-- The marker unit takes a finding (R176). -/
def State.markFinding (s : State) (v : Setup) (f : Finding) : State :=
  if v.markerOffset = 0 then s else s.offerMark v (markOf v f.start f.stop)

/-- The output and the active mark after a transition to `position` (R183, R184). -/
def MarkerUnit.follow (m : MarkerUnit) (dir : Direction) (position : Int) : MarkerUnit :=
  match m.active with
  | none => { m with direction := dir }
  | some a =>
    match dir with
    | .reverse => { m with direction := dir, output := .off }
    | .forward =>
      if a.stop < position then { m with direction := dir, output := .off, active := none }
      else if position < a.start then { m with direction := dir, output := .off }
      else { m with direction := dir, output := .on }

/-- A transition that changed the count reaches the marker unit (R179, R183, R184). `before` is the
position before it. -/
def State.markMove (s : State) (dir : Direction) (before : Int) : State :=
  let t := { s with marker := s.marker.follow dir s.travel.position }
  t.startTest (if dir = .forward then some before else none)

end Sys2Proof.Machine
end

