-- ==== Sys2Proof/Machine/Record.lean ====
section
/-! DEFINITION. The record unit (chapter 7): the order of entries, arrival, the late path, the full
record, commit, corner merge, closing of gaps, eviction, and the feed to the marker unit. -/

namespace Sys2Proof.Machine

/-! ### Entries and their order (R130, R131) -/

def Entry.start : Entry → Int
  | .finding f => f.start
  | .loss _ start _ => start
  | .gap _ _ start _ => start

/-- The end, absent for an open GAP. -/
def Entry.stop : Entry → Option Int
  | .finding f => some f.stop
  | .loss _ _ stop => some stop
  | .gap _ _ _ stop => stop

/-- The origin; that of a GAP is its subject. -/
def Entry.origin : Entry → Nat
  | .finding f => f.origin
  | .loss origin _ _ => origin
  | .gap _ subject _ _ => subject

def Entry.kindRank : Entry → Nat
  | .finding _ => 0
  | .loss _ _ _ => 1
  | .gap _ _ _ _ => 2

/-- The fourth key: finding id, end of a LOSS, face of a GAP. -/
def Entry.lastKey : Entry → Int
  | .finding f => f.id
  | .loss _ _ stop => stop
  | .gap face _ _ _ => face

/-- `a` comes before `b` by the four keys (R131). -/
def Entry.before (a b : Entry) : Bool :=
  a.start < b.start || (a.start == b.start &&
    (a.origin < b.origin || (a.origin == b.origin &&
      (a.kindRank < b.kindRank || (a.kindRank == b.kindRank && a.lastKey < b.lastKey)))))

/-- An entry takes its place, after those equal to it in every key (R131). -/
def insertEntry (e : Entry) : List Entry → List Entry
  | [] => [e]
  | x :: rest => if e.before x then e :: x :: rest else x :: insertEntry e rest

/-! ### The full record (R137, R138, R171) -/

/-- Does the entry's range share a position with the billet's stretch? (R138) -/
def Entry.overlaps (e : Entry) (b : Billet) : Bool :=
  b.tail.all (e.start < ·) && e.stop.all (b.head ≤ ·)

/-- The first position that an entry's removal does not touch (R171). -/
def Entry.past (e : Entry) : Int := e.stop.getD e.start + 1

/-- The removal report: overlapped billets take TRUNCATED, the record floor rises (R138, R171;
log 26). -/
def State.reportRemoval (s : State) (e : Entry) : State :=
  { s with billet := { s.billet with
      billets := s.billet.billets.map fun b =>
        { b with truncated := b.truncated || e.overlaps b }
      floor := some (match s.billet.floor with
        | none => e.past
        | some f => max f e.past) } }

/-- Before an entry enters a full record, the oldest is removed (R137). -/
def State.makeRoom (s : State) : State :=
  match s.record.entries with
  | [] => s
  | oldest :: rest =>
    if s.record.entries.length < Config.recordLimit then s
    else ({ s with record := { s.record with entries := rest } }.count .recordEvict).reportRemoval
      oldest

/-- A committed entry enters at the newest end (R141). -/
def State.enterNewest (s : State) (e : Entry) : State :=
  let t := s.makeRoom
  { t with record := { t.record with entries := t.record.entries ++ [e] } }

/-- A late entry enters at its place (R136). -/
def State.enterLate (s : State) (e : Entry) : State :=
  let t := s.makeRoom
  { t with record := { t.record with entries := insertEntry e t.record.entries } }

/-! ### Eviction (R147) -/

/-- Does the entry lie wholly before `head`? -/
def Entry.whollyBefore (e : Entry) (head : Int) : Bool := e.stop.getD e.start < head

/-- The eviction test (R147). -/
def State.evict (s : State) : State :=
  match s.billet.billets with
  | [] => s
  | oldest :: _ => { s with record := { s.record with
      entries := s.record.entries.filter fun e => !e.whollyBefore oldest.head } }

/-! ### The feed to the marker unit (R148) -/

/-- Is a finding for this node's marker? -/
def Finding.forMarker (f : Finding) (face severity : Nat) : Bool :=
  (f.face == face || f.secondFace == some face) && severity ≤ f.severity

/-- A finding that stands in the record is handed to the marker unit where R148 requires. -/
def State.feedMarker (s : State) (f : Finding) : State :=
  match s.ctl.setup with
  | none => s
  | some v => if f.forMarker s.ctl.face v.markSeverity then s.markFinding v f else s

/-! ### Corner merge (R142 to R144) -/

/-- May `c` take the committing finding `f`? (R142) -/
def Finding.mergesWith (f c : Finding) (tolerance : Nat) : Bool :=
  f.cls == .corner && c.cls == .corner && c.secondFace.isNone && !c.late
    && ((f.flags.cornerLow && !f.flags.cornerHigh && c.face == (f.face + 3) % 4
          && c.flags.cornerHigh)
        || (f.flags.cornerHigh && !f.flags.cornerLow && c.face == (f.face + 1) % 4
          && c.flags.cornerLow))
    && c.start ≤ f.stop + tolerance && f.start - tolerance ≤ c.stop

/-- The candidate `c` after taking `f` (R143). -/
def Finding.merge (c f : Finding) : Finding :=
  { c with
    secondFace := some f.face
    start := min c.start f.start
    stop := max c.stop f.stop
    severity := max c.severity f.severity
    peak := max c.peak f.peak
    flags := c.flags.union f.flags
    test := c.test || f.test
    merged := some (f.origin, f.id) }

/-- The first candidate in the record's order takes `f`: the record after it and the merged entry. -/
def mergeFirst (f : Finding) (tolerance : Nat) : List Entry → Option (List Entry × Finding)
  | [] => none
  | .finding c :: rest =>
    if f.mergesWith c tolerance then some (.finding (c.merge f) :: rest, c.merge f)
    else (mergeFirst f tolerance rest).map fun (r, m) => (.finding c :: r, m)
  | e :: rest => (mergeFirst f tolerance rest).map fun (r, m) => (e :: r, m)

/-! ### Commit (R139 to R141) -/

/-- One entry is committed (R139, R141). -/
def State.commitEntry (v : Setup) (s : State) (e : Entry) : State :=
  match e with
  | .finding f =>
    match mergeFirst f v.mergeTolerance s.record.entries with
    | some (entries, m) => { s with record := { s.record with entries := entries } }.feedMarker m
    | none => (s.enterNewest e).feedMarker f
  | .loss _ _ _ => s.enterNewest e
  | .gap _ _ _ _ => s.enterNewest e

/-- The overflow range as an entry, where its start is below `h` (R140). -/
def State.overflowBelow (s : State) (h : Int) : Option Entry :=
  match s.record.overflow with
  | some (a, b) => if a < h then some (.loss s.ownId a b) else none
  | none => none

/-- What a rise to `h` commits, in order (R139, R140). -/
def State.committing (s : State) (h : Int) : List Entry :=
  let below := s.record.pending.filter fun e => e.start < h
  match s.overflowBelow h with
  | some e => insertEntry e below
  | none => below

/-- The commit of a rise to `h` (R139, R141). -/
def State.commitBelow (v : Setup) (h : Int) (s : State) : State :=
  let t := { s with record := { s.record with
    pending := s.record.pending.filter fun e => !(e.start < h)
    overflow := if (s.overflowBelow h).isSome then none else s.record.overflow } }
  ((s.committing h).foldl (State.commitEntry v) t).evict

/-! ### Arrival (R132 to R136) -/

/-- Does a held entry stand for the finding of this origin and id? (R133) -/
def Entry.holds (origin id : Nat) : Entry → Bool
  | .finding f => (f.origin == origin && f.id == id) || f.merged == some (origin, id)
  | .loss _ _ _ => false
  | .gap _ _ _ _ => false

/-- Is the entry a second copy? (R133) -/
def State.isSecondCopy (s : State) (e : Entry) : Bool :=
  match e with
  | .finding f =>
    s.record.pending.any (Entry.holds f.origin f.id)
      || s.record.entries.any (Entry.holds f.origin f.id)
  | .loss _ _ _ => false
  | .gap _ _ _ _ => false

/-- The overflow range widened to an entry (R135). -/
def widen (range : Option (Int × Int)) (e : Entry) : Int × Int :=
  match range with
  | none => (e.start, e.stop.getD e.start)
  | some (a, b) => (min a e.start, max b (e.stop.getD e.start))

/-- An entry is sent to the pending list (R134, R135). -/
def State.toPending (s : State) (e : Entry) : State :=
  if s.record.pending.length < Config.pendingLimit then
    { s with record := { s.record with pending := insertEntry e s.record.pending } }
  else
    { s with record := { s.record with
        overflow := some (widen s.record.overflow e) } }.count .pendingOverflow

/-- An entry goes by the late path (R136). -/
def State.takeLate (s : State) (e : Entry) : State :=
  let t := s.count .late
  match e with
  | .finding f =>
    let g := { f with late := true }
    ((t.enterLate (.finding g)).feedMarker g).evict
  | .loss _ _ _ => (t.enterLate e).evict
  | .gap _ _ _ _ => (t.enterLate e).evict

/-- The record unit takes an entry handed to it (R132). -/
def State.handEntry (s : State) (e : Entry) : State :=
  if s.isSecondCopy e then
    if e.start < s.hz.horizon then s.count .late else s
  else if e.start < s.hz.horizon then s.takeLate e
  else s.toPending e

/-! ### Closing a GAP (R146) -/

/-- Is this the open GAP of the face, subject and start? -/
def Entry.isOpenGap (face subject : Nat) (start : Int) : Entry → Bool
  | .gap f sub a none => f == face && sub == subject && a == start
  | .gap _ _ _ (some _) => false
  | .finding _ => false
  | .loss _ _ _ => false

/-- A GAP that takes its end, at or above its start. -/
def Entry.closeAt (stop : Int) : Entry → Entry
  | .gap f sub a _ => .gap f sub a (some (max a stop))
  | .finding f => .finding f
  | .loss o a b => .loss o a b

/-- The first open GAP of the face, subject and start is closed. -/
def closeFirst (face subject : Nat) (start stop : Int) : List Entry → List Entry
  | [] => []
  | e :: rest =>
    if e.isOpenGap face subject start then e.closeAt stop :: rest
    else e :: closeFirst face subject start stop rest

/-- A close instruction: looked for in the pending list, then in the strand record (R146). -/
def State.closeGap (s : State) (face subject : Nat) (start stop : Int) : State :=
  if s.record.pending.any (Entry.isOpenGap face subject start) then
    { s with record := { s.record with
        pending := closeFirst face subject start stop s.record.pending } }
  else
    { s with record := { s.record with
        entries := closeFirst face subject start stop s.record.entries } }

end Sys2Proof.Machine
end

