-- ==== Sys2Proof/Machine/Billet.lean ====
section
/-! DEFINITION. The billet unit (chapter 8): cuts, retirement, the verdict and its decision, and heard
verdicts. -/

namespace Sys2Proof.Machine

/-! ### Computing a verdict (R163 to R168) -/

/-- Does an entry lie within the stretch [head, tail)? (R163) -/
def Entry.liesWithin (head tail : Int) : Entry → Bool
  | .finding f => f.start < tail && head ≤ f.stop
  | .loss _ start stop => start < tail && head ≤ stop
  | .gap _ _ start (some stop) => start < tail && head < stop && start < stop
  | .gap _ _ start none => start < tail

/-- The findings among entries. -/
def findingsOf (entries : List Entry) : List Finding :=
  entries.filterMap fun e =>
    match e with
    | .finding f => some f
    | .loss _ _ _ => none
    | .gap _ _ _ _ => none

/-- Does a LOSS stand among entries? -/
def anyLoss (entries : List Entry) : Bool :=
  entries.any fun e =>
    match e with
    | .loss _ _ _ => true
    | .finding _ => false
    | .gap _ _ _ _ => false

/-- The stretches of one face's GAP entries, cut at head and tail (R165). -/
def gapsOf (face : Nat) (head tail : Int) (entries : List Entry) : List (Int × Int) :=
  entries.filterMap fun e =>
    match e with
    | .gap f _ start stop =>
      if f = face then some (max start head, min (stop.getD tail) tail) else none
    | .finding _ => none
    | .loss _ _ _ => none

/-- The length of the union of stretches listed by their starts, counted above `from` (R165). The
record's order lists a face's gaps so (R137). -/
def unionLength (start : Int) : List (Int × Int) → Int
  | [] => 0
  | (a, b) :: rest => max 0 (b - max a start) + unionLength (max start b) rest

/-- Is a face held by the node or by a peer record? (R128, R165) -/
def State.faceHeld (s : State) (face : Nat) : Bool :=
  s.ctl.face == face || s.hz.peers.any fun p => p.face == some face

/-- The gap length of a face (R165). -/
def State.gapLength (s : State) (head tail : Int) (face : Nat) : Int :=
  if s.faceHeld face then
    unionLength head
      (gapsOf face head tail (s.record.entries.filter (Entry.liesWithin head tail)))
  else tail - head

/-- The faces of the face mask. -/
def facesOf (mask : BitVec 4) : List Nat := (List.range 4).filter mask.getLsbD

/-- The coverage of a billet, in per mille (R165; log 31). -/
def State.coverage (s : State) (v : Setup) (head tail : Int) : Nat :=
  let faces := facesOf v.faceMask
  let whole := (faces.length : Int) * (tail - head)
  let gaps := (faces.map (s.gapLength head tail)).foldl (· + ·) 0
  (1000 * (whole - gaps) / whole).toNat

/-- How many findings have a class, held at 255 (R164). -/
def countClass (c : FindingClass) (fs : List Finding) : Nat :=
  min 255 (fs.countP fun f => f.cls == c)

/-- The grade (R167). -/
def gradeOfBillet (v : Setup) (fs : List Finding) (coverage : Nat) (trouble : Bool) : Grade :=
  if fs.any fun f => v.rejectSeverity ≤ f.severity then .reject
  else if coverage < v.coverageMinimum || trouble then .review
  else .accept

/-- The verdict of a billet with tail `tail` from the record as it stands (R163 to R168). -/
def State.verdictOf (s : State) (v : Setup) (b : Billet) (tail : Int) : Verdict :=
  let entries := s.record.entries.filter (Entry.liesWithin b.head tail)
  let fs := findingsOf entries
  let coverage := s.coverage v b.head tail
  let incomplete := anyLoss entries
  let unverified := fs.any fun f => f.flags.unverified
  let late := fs.any fun f => f.late
  { number := b.number
    strand := s.ctl.strand
    length := tail - b.head
    longitudinal := countClass .longitudinal fs
    transverse := countClass .transverse fs
    corner := countClass .corner fs
    minor := countClass .minor fs
    maxSeverity := (fs.map Finding.severity).foldl max 0
    grade := gradeOfBillet v fs coverage (incomplete || b.truncated || unverified || late)
    coverage := coverage
    incomplete := incomplete
    truncated := b.truncated
    unverified := unverified
    late := late
    test := fs.any fun f => f.test
    total := min 65535 fs.length }

/-! ### The decision (R160, R161) -/

/-- Does this node hold the verdict role? (R160) -/
def State.hasRole (s : State) : Bool :=
  s.hz.peers.all fun p => p.state != .live || s.ownId ≤ p.id

/-- The DUE billets in order, up to the first whose frame is refused (R161). -/
def decideBillets (v : Setup) : List Billet → State → List Billet × State
  | [], s => ([], s)
  | b :: rest, s =>
    match b.state, b.tail with
    | .due, some tail =>
      let verdict := s.verdictOf v b tail
      let t := s.handFrame (toAll verdict.test (.verdict verdict))
      if s.queueFull then (b :: rest, t)
      else
        let (r, u) := decideBillets v rest t
        ({ b with state := .reported, verdictSent := true, sent := some verdict } :: r, u)
    | _, _ =>
      let (r, u) := decideBillets v rest s
      (b :: r, u)

/-- The verdict decision (R161). -/
def State.verdictDecision (s : State) (v : Setup) : State :=
  if s.hasRole then
    let (billets, t) := decideBillets v s.billet.billets s
    { t with billet := { t.billet with billets := billets } }
  else s

/-- A billet in CUT whose tail the strand horizon exceeds becomes DUE (R159). -/
def Billet.fallDue (horizon : Int) (b : Billet) : Billet :=
  if b.state = .cut ∧ b.tail.any (· < horizon) then { b with state := .due } else b

/-- A rise of the strand horizon reaches the billet unit (R159, R161). -/
def State.billetRise (s : State) (v : Setup) : State :=
  { s with billet := { s.billet with
      billets := s.billet.billets.map (Billet.fallDue s.hz.horizon) } }.verdictDecision v

/-! ### Cuts (R153 to R158) -/

/-- The distance of two positions. -/
def distance (a b : Int) : Nat := (a - b).natAbs

/-- The nearest held head within the tolerance, the lower of two equally near (R154). -/
def nearestHead (tolerance : Nat) (position : Int) (billets : List Billet) : Option Billet :=
  billets.foldl (fun best b =>
    if distance position b.head < tolerance
        && best.all fun c => distance position b.head < distance position c.head
    then some b else best) none

/-- Is a held tail within the tolerance? (R154) -/
def nearTail (tolerance : Nat) (position : Int) (billets : List Billet) : Bool :=
  billets.any fun b => b.tail.any fun t => distance position t < tolerance

/-- Is a cut out of order? (R155) -/
def outOfOrder (number : Nat) (position : Int) (billets : List Billet) : Bool :=
  billets.getLast?.any fun newest => position < newest.head || number ≤ newest.number

/-- A full table retires a billet (R156). -/
def State.retire (s : State) : State :=
  match s.billet.billets with
  | [] => s
  | oldest :: rest =>
    if s.billet.billets.length < Config.billetLimit then s
    else if oldest.state = .reported then
      { s with billet := { s.billet with billets := rest } }.evict
    else if rest.dropLast.any fun b => b.state == .reported then
      { s with billet := { s.billet with
          billets := oldest :: rest.eraseP fun b => b.state == .reported } }
    else ({ s with billet := { s.billet with billets := rest } }.count .verdictLost).evict

/-- The newest billet takes its tail; an OPEN one becomes CUT (R157). -/
def Billet.close (position : Int) (b : Billet) : Billet :=
  { b with tail := some position, state := if b.state = .opened then .cut else b.state }

/-- The billet a new cut opens (R157, R171). -/
def openBillet (number : Nat) (position : Int) (floor : Option Int) : Billet :=
  { number := number, head := position, tail := none, state := .opened
    truncated := floor.any (position < ·), verdictSent := false, sent := none }

/-- The table after a new cut: the newest closed and tested for DUE, the new one opened (R157,
R159). -/
def cutTable (number : Nat) (position horizon : Int) (floor : Option Int)
    (billets : List Billet) : List Billet :=
  match billets.getLast? with
  | none => [openBillet number position floor]
  | some newest => billets.dropLast ++ [(newest.close position).fallDue horizon,
      openBillet number position floor]

/-- A new cut (R156 to R158). -/
def State.newCut (s : State) (v : Setup) (received : Bool) (number : Nat) (position : Int) :
    State :=
  let t := s.retire
  let u := { t with
    billet := { t.billet with
      billets := cutTable number position t.hz.horizon t.billet.floor t.billet.billets }
    travel := { t.travel with
      cutCounter := if received && v.cutReporting then some number else t.travel.cutCounter } }
  if t.billet.billets.isEmpty then u.evict else u.verdictDecision v

/-- The billet unit takes a cut (R153 to R155). -/
def State.takeCut (s : State) (v : Setup) (received : Bool) (number : Nat) (position : Int) :
    State :=
  match nearestHead v.cutTolerance position s.billet.billets with
  | some b => if b.number = number then s else s.setFlag .cutConflict
  | none =>
    if nearTail v.cutTolerance position s.billet.billets then s
    else if outOfOrder number position s.billet.billets then s.setFlag .cutConflict
    else s.newCut v received number position

/-! ### Heard verdicts (R169, R170) -/

/-- Do a heard and a sent verdict agree in what R170 compares? -/
def Verdict.agrees (a b : Verdict) : Bool :=
  a.grade == b.grade && a.longitudinal == b.longitudinal && a.transverse == b.transverse
    && a.corner == b.corner && a.minor == b.minor && a.total == b.total && a.length == b.length

/-- A VERDICT of the own strand for a held billet (R170). -/
def State.hearVerdict (s : State) (heard : Verdict) : State :=
  if heard.strand = s.ctl.strand then
    match s.billet.billets.find? fun b => b.number == heard.number with
    | none => s
    | some b =>
      if b.state = .reported then
        if b.verdictSent && !b.sent.all heard.agrees then s.setFlag .verdictMismatch else s
      else
        { s with billet := { s.billet with
            billets := s.billet.billets.map fun c =>
              if c.number = heard.number then { c with state := .reported } else c } }
  else s

end Sys2Proof.Machine
end

