-- ==== Sys2Proof/Machine/Horizon.lean ====
section
/-! DEFINITION. The horizon unit's own side (chapters 4 and 6): the own clear-to, the strand horizon,
the note list, the own GAP and covering. -/

namespace Sys2Proof.Machine

/-! ### Own clear-to and strand horizon (R81, R122, R125) -/

/-- Where a queued frame holds back the own clear-to (R81). -/
def TxFrame.findingStart (f : TxFrame) : Option Int :=
  match f.body with
  | .finding g _ => some g.start
  | _ => none

/-- First positions of the open traces (R81). -/
def State.traceFirsts (s : State) : List Int :=
  s.tracer.slots.filterMap fun t => t.map Trace.first

/-- The minimum of the terms of the own clear-to (R81). -/
def State.clearToTerm (s : State) (v : Setup) : Int :=
  (s.traceFirsts ++ s.xcvr.queue.filterMap TxFrame.findingStart ++ s.hz.notes.map Note.start).foldl
    min (s.frontier v)

/-- The own clear-to after a recomputation (R81, R83). -/
def State.newClearTo (s : State) (v : Setup) : Int := max s.hz.ownClearTo (s.clearToTerm v)

/-- The clear-tos of the LIVE records (R122; log 23). -/
def liveClearTos (peers : List Peer) : List Int :=
  peers.filterMap fun p => if p.state = .live then p.clearTo else none

/-- The strand horizon after a recomputation (R122). -/
def State.newHorizon (s : State) : Int :=
  max s.hz.horizon ((liveClearTos s.hz.peers).foldl min s.hz.ownClearTo)

/-- The strand horizon is recomputed; a rise is handed to the record unit, then to the billet unit
(R122). -/
def State.recomputeHorizon (s : State) (v : Setup) : State :=
  if s.hz.horizon < s.newHorizon then
    (State.commitBelow v s.newHorizon
      { s with hz := { s.hz with horizon := s.newHorizon } }).billetRise v
  else s

/-- The step trigger of R125. -/
def State.horizonStep (s : State) (v : Setup) : State :=
  if s.hz.lastSent.any fun c => c + v.horizonStep ≤ s.hz.ownClearTo then
    s.handFrame (s.toStrand false .horizon)
  else s

/-- The own clear-to is recomputed, and after a change the strand horizon (R81, R122, R125; log
10). Before SETUP is accepted neither is. -/
def State.recompute (s : State) : State :=
  match s.ctl.setup with
  | none => s
  | some v =>
    let t := { s with hz := { s.hz with ownClearTo := s.newClearTo v } }.horizonStep v
    if s.newClearTo v = s.hz.ownClearTo then t else t.recomputeHorizon v

/-! ### The note list (R123) -/

/-- The smallest note that covers a note and a range. -/
def Note.cover (n : Note) (a b : Int) : Note := { start := min n.start a, stop := max n.stop b }

/-- Does a range overlap a note or lie within one pitch of it? (R123) -/
def Note.near (n : Note) (pitch : Nat) (a b : Int) : Bool :=
  a ≤ n.stop + pitch && n.start ≤ b + pitch

/-- The note list after a range is merged; `busy` says that the oldest note is in delivery (R123). -/
def mergeRange (pitch : Nat) (busy : Bool) (notes : List Note) (a b : Int) : List Note :=
  match notes.getLast? with
  | none => [{ start := a, stop := b }]
  | some n =>
    if (n.near pitch a b && !(busy && notes.length == 1)) || Config.noteLimit ≤ notes.length then
      notes.dropLast ++ [n.cover a b]
    else notes ++ [{ start := a, stop := b }]

/-- A LOSS range over one line position is merged into the note list (R123). -/
def State.noteLine (s : State) (v : Setup) (position : Int) : State :=
  { s with hz := { s.hz with
      notes := mergeRange v.linePitch s.hz.inDelivery.isSome s.hz.notes position position } }

/-! ### Covering and the own GAP (R121, R197) -/

/-- The own GAP opens at the line frontier (R121). -/
def State.openOwnGap (s : State) (v : Setup) : State :=
  { s with hz := { s.hz with ownGap := some (s.frontier v) } }.handEntry
    (.gap s.ctl.face s.ownId (s.frontier v) none)

/-- The own GAP closes at the line frontier (R121). -/
def State.closeOwnGap (s : State) (v : Setup) : State :=
  match s.hz.ownGap with
  | none => s
  | some start =>
    { s with hz := { s.hz with ownGap := none } }.closeGap s.ctl.face s.ownId start (s.frontier v)

/-- Is the node covering? (R197) -/
def State.isCovering (s : State) : Bool :=
  s.ctl.mode == .inspecting && s.travel.strand == .asserted && s.travel.gate == .opened

/-- The covering test (R197). -/
def State.coveringTest (s : State) (v : Setup) : State :=
  if s.isCovering = s.ctl.covering then s
  else
    let t := { s with ctl := { s.ctl with covering := s.isCovering } }
    if s.isCovering then t.closeOwnGap v else t.openOwnGap v

end Sys2Proof.Machine
end

