-- ==== Sys2Proof/Machine/Corrector.lean ====
section
/-! DEFINITION. The line corrector (chapter 3): correction, background, contrast, score, the synthetic
pattern, runs, the gain build, and the handling of one line. -/

namespace Sys2Proof.Machine

/-- One entry for each column of a line; absent in a blind column (R41). -/
abbrev Columns := List (Option Nat)

/-- The raw values of a line as numbers, one for each of `n` pixels (log 22). -/
def rawValues (n : Nat) (raw : List (BitVec 12)) : List Nat :=
  let values := (raw.take n).map BitVec.toNat
  values ++ List.replicate (n - values.length) 0

/-! ### Correction, background, contrast (R42 to R44) -/

/-- One corrected value (R42). -/
def correct (raw dark gain : Nat) : Nat :=
  (hold 0 4095 (((raw : Int) - dark) * gain / 1024)).toNat

/-- The corrected values from column p on (R41, R42). -/
def correctFrom (blind : SegMask) : Nat → List Nat → List Nat → List Nat → Columns
  | p, r :: raw, d :: dark, g :: gain =>
    (if SegMask.has blind (segOf p) then none else some (correct r d g))
      :: correctFrom blind (p + 1) raw dark gain
  | _, _, _, _ => []

/-- The mean of the values present, rounded down (R43). -/
def meanOf (window : Columns) : Nat :=
  let values := window.filterMap id
  values.sum / values.length

/-- A background beside its corrected value, column by column; `behind` lists the columns before,
nearest first (R43). -/
def withBackground : Columns → Columns → List (Option (Nat × Nat))
  | _, [] => []
  | behind, c :: ahead =>
    (c.map fun v => (meanOf (behind.take 15 ++ c :: ahead.take 15), v))
      :: withBackground (c :: behind) ahead

/-- The contrast of a column from its background and corrected value (R44). -/
def contrast (polarity : Polarity) (background corrected : Nat) : Nat :=
  match polarity with
  | .dark => min 255 (background - corrected)
  | .bright => min 255 (corrected - background)

/-! ### Score (R45) -/

/-- The square root of a number below 2^16, rounded down. -/
def root16 (n : Nat) : Nat :=
  [128, 64, 32, 16, 8, 4, 2, 1].foldl (fun r b => if (r + b) * (r + b) ≤ n then r + b else r) 0

/-- The LUT curve (R45). 255 × log2(1 + c) rounds down to the binary logarithm of (1 + c)^255. -/
def score (curve : LutCurve) (c : Nat) : Nat :=
  match curve with
  | .linear => c
  | .root => root16 (255 * c)
  | .log => Nat.log2 ((1 + c) ^ 255) / 8
  | .step => 255 * (c / 32) / 7

/-! ### The synthetic pattern (R46) -/

/-- Does a column of a line lie in a streak? -/
def inStreak (phase column : Nat) : Bool :=
  (within 1000 3999 phase && within 1020 1027 column)
    || (within 6000 6999 phase && column ≤ 5)
    || (within 10000 10019 phase && within 600 900 column)

/-- The contrasts of a synthetic line (R46). -/
def syntheticContrasts (blind : SegMask) (position : Int) : Columns :=
  let phase := (position % 20000).toNat
  (List.range Config.columns).map fun p =>
    if SegMask.has blind (segOf p) then none else some (if inStreak phase p then 120 else 0)

/-! ### Runs (R47) -/

/-- The runs from column p on, `current` being the run that column p - 1 ends (R47). -/
def runsFrom (threshold : Nat) : Nat → Option Run → Columns → List Run
  | _, current, [] => current.toList
  | p, current, none :: rest => current.toList ++ runsFrom threshold (p + 1) none rest
  | p, current, some c :: rest =>
    if threshold ≤ c then
      let run := match current with
        | none => { lo := p, hi := p, peak := c }
        | some r => { r with hi := p, peak := max r.peak c }
      runsFrom threshold (p + 1) (some run) rest
    else current.toList ++ runsFrom threshold (p + 1) none rest

/-- The contrasts of a line (R42 to R46). -/
def lineContrasts (v : Setup) (blind : SegMask) (position : Int) (raw dark gain : List Nat) :
    Columns :=
  if v.synthetic then syntheticContrasts blind position
  else (withBackground [] (correctFrom blind 0 raw dark gain)).map fun c =>
    c.map fun (b, x) => contrast v.polarity b x

/-- The runs of a line, all of them (R45, R47). -/
def lineRuns (v : Setup) (contrasts : Columns) : List Run :=
  runsFrom v.runThreshold 0 none (contrasts.map fun c => c.map (score v.lutCurve))

/-! ### The gain build (R51 to R55) -/

/-- Build sums from column p on after one line (R52). -/
def addSums (blind : SegMask) : Nat → List Nat → List Nat → List Int → List Int
  | p, r :: raw, d :: dark, x :: sums =>
    (if SegMask.has blind (segOf p) then x else x + ((r : Int) - d))
      :: addSums blind (p + 1) raw dark sums
  | _, _, _, sums => sums

/-- Build sample counts from column p on after one line (R52). -/
def addSamples (blind : SegMask) : Nat → List Nat → List Nat
  | _, [] => []
  | p, n :: samples =>
    (if SegMask.has blind (segOf p) then n else n + 1) :: addSamples blind (p + 1) samples

/-- The mean of each pixel with a sample (R53). -/
def pixelMeans (sums : List Int) (samples : List Nat) : List (Option Int) :=
  List.zipWith (fun x n => if n = 0 then none else some (x / (n : Int))) sums samples

/-- The mean of the pixel means; absent where no pixel has a sample (R53). -/
def meanOfMeans (means : List (Option Int)) : Option Int :=
  let present := means.filterMap id
  if present.isEmpty then none
  else some (present.foldl (· + ·) 0 / (present.length : Int))

/-- The new gain of a pixel (R53). -/
def newGain (m : Int) (mean : Option Int) (gain : Nat) : Nat :=
  match mean with
  | none => gain
  | some x => if x ≤ 0 then 4095 else (hold 256 4095 (1024 * m / x)).toNat

/-- The build is over: the target absent, the sums and counts emptied (R53 to R55). -/
def Corrector.endBuild (c : Corrector) (state : BuildState) : Corrector :=
  { c with build := state, target := none, lines := 0
           sums := List.replicate Config.columns 0
           samples := List.replicate Config.columns 0 }

/-- The completing build with mean of means m (R53, R54). -/
def Corrector.install (c : Corrector) (m : Int) : Corrector :=
  if m ≤ 0 then c.endBuild .aborted
  else { c.endBuild BuildState.done with
    gain := List.zipWith (newGain m) (pixelMeans c.sums c.samples) c.gain }

/-- The build completes when its lines reach the target (R53, R54; the mean of no pixel is a free
value, log 15). -/
def State.completeBuild (s : State) : State :=
  if s.corr.build = .busy ∧ s.corr.target = some s.corr.lines then
    match meanOfMeans (pixelMeans s.corr.sums s.corr.samples) with
    | some m => { s with corr := s.corr.install m }
    | none => { s with corr := s.corr.install (Config.meanOfNoPixel s.freeDraws)
                       freeDraws := s.freeDraws + 1 }
  else s

/-- A BUSY build is aborted (R55). -/
def State.abortBuild (s : State) : State :=
  if s.corr.build = .busy then { s with corr := s.corr.endBuild .aborted } else s

/-- A BUILD of line count `g` is accepted (R51). -/
def State.acceptBuild (s : State) (g : Nat) : State :=
  let emptied := s.corr.endBuild BuildState.busy
  { s with corr := { emptied with target := some g } }

/-- A line without runs is accumulated in a BUSY build (R52). -/
def Corrector.accumulate (c : Corrector) (blind : SegMask) (raw : List Nat) : Corrector :=
  { c with
    lines := c.lines + 1
    sums := addSums blind 0 raw c.dark c.sums
    samples := addSamples blind 0 c.samples }

/-! ### One line (R41, R48 to R50) -/

/-- A line of more than 16 runs is counted and noted (R48, R49). -/
def State.crowd (s : State) (v : Setup) (position : Int) (crowded : Bool) : State :=
  if crowded then (s.count .runOverflow).noteLine v position else s

/-- The corrector handles one line to the hand-off and beyond (R41, R50, R53). -/
def State.correctLine (s : State) (v : Setup) (line : LineInFlight) (raw : List (BitVec 12))
    (withheld : SegMask) : State :=
  let blind := line.blind ||| withheld
  let values := rawValues Config.columns raw
  let runs := lineRuns v
    (lineContrasts v blind line.position values s.corr.dark s.corr.gain)
  let crowded := decide (Config.runLimit < runs.length)
  let t : State := s.crowd v line.position crowded
  let u : State := { t with
    corr := if t.corr.build = .busy ∧ runs = [] then t.corr.accumulate blind values else t.corr
    tracer := { t.tracer with awaiting := t.tracer.awaiting ++ [{
      position := line.position
      runs := runs.take Config.runLimit
      blind := blind
      stale := s.staleSet
      crowded := crowded
      synthetic := v.synthetic }] } }
  u.completeBuild

end Sys2Proof.Machine
end

