-- ==== Sys2Proof/Machine/Scheduler.lean ====
section
/-! DEFINITION. The reference scheduler (chapter 2): the DUE test, the start of a cycle, the line
boundary, and the ends of a reference. -/

namespace Sys2Proof.Machine

/-! ### Requests (R19, R24) -/

/-- A reference is requested of the head (R24). -/
def State.requestReference (s : State) (scope : Scope) : State :=
  let t := s.port (.referenceRequest s.head.tag scope)
  { t with head := { t.head with
      tag := s.head.tag + 1
      reference := some { scope := scope, tag := s.head.tag, taken := 0
                          due := s.nodeTime + Config.headWait } } }

/-- The reference outstanding is stopped before its 16th readout (R24). The stop carries that
reference's tag and does not advance the request tag (log 35). -/
def State.stopReference (s : State) : State :=
  match s.head.reference with
  | none => s
  | some r =>
    let t := s.port (.referenceStop r.tag)
    { t with head := { t.head with reference := none } }

/-! ### Segments -/

/-- The record of segment i is replaced. -/
def State.setSeg (s : State) (i : Fin 8) (g : Segment) : State :=
  { s with sched := { s.sched with segs := s.sched.segs.set i.val g } }

/-- Segment i as an accepted reference leaves it (R34, R35, R37). -/
def State.renewSeg (s : State) (i : Fin 8) : State :=
  let t := s.setSeg i { state := .current, lastReference := some s.nodeTime, postponed := 0 }
  { t with sched := { t.sched with pointer := i + 1 } }

/-- Does a last span touch segment i? (R31) -/
def Trace.touches (t : Trace) (i : Fin 8) : Bool :=
  segOf t.spanLo ≤ i.val && i.val ≤ segOf t.spanHi

/-- Does the last span of an open trace touch segment i? (R31) -/
def State.touched (s : State) (i : Fin 8) : Bool :=
  s.tracer.slots.any fun slot => slot.any (Trace.touches · i)

/-- The cycle of segment i starts (R31). -/
def State.startCycle (s : State) (i : Fin 8) : State :=
  let t := s.setSeg i { s.seg i with state := .blind, postponed := 0 }
  { t with sched := { t.sched with
      accum := List.replicate Config.segColumns 0 } }.requestReference (.segment i)

/-- The start test when segment i becomes DUE (R31). -/
def State.startOnDue (s : State) (i : Fin 8) : State :=
  match s.ctl.mode with
  | .waiting => s.startCycle i
  | .inspecting => if s.touched i then s else s.startCycle i
  | _ => s

/-- The DUE test (R30). -/
def State.dueTest (s : State) : State :=
  if s.sched.allRunning || s.ctl.mode == .headFault
      || s.sched.segs.any (fun g => g.state != .current) || s.sched.ticks == 0 then s
  else
    let i := s.sched.pointer
    let t := s.setSeg i { s.seg i with state := .due, postponed := 0 }
    { t with sched := { t.sched with ticks := t.sched.ticks - 1 } }.startOnDue i

/-- The segment that is DUE. -/
def State.dueSeg (s : State) : Option (Fin 8) :=
  (List.finRange 8).find? fun i => (s.seg i).state == .due

/-- The line boundary (R32). -/
def State.lineBoundary (s : State) (v : Setup) : State :=
  match s.dueSeg with
  | none => s
  | some i =>
    if s.ctl.mode = .inspecting then
      if s.touched i && (s.seg i).postponed + 1 != v.postponeLimit then
        s.setSeg i { s.seg i with postponed := (s.seg i).postponed + 1 }
      else s.startCycle i
    else s

/-! ### The end of a reference (R33 to R37) -/

/-- The dark table with the means of a reference written over its scope (R33). -/
def writeDark (scope : Scope) (means dark : List Nat) : List Nat :=
  match scope with
  | .segment i => dark.take (Config.segColumns * i.val) ++ means
      ++ dark.drop (Config.segColumns * (i.val + 1))
  | .all => means

/-- A reference of `n` readouts ends: accepted from 8 on, and the accumulators emptied (R33). -/
def State.endReference (s : State) (scope : Scope) (n : Nat) : State :=
  { s with
    corr := { s.corr with
      dark := if Config.acceptReadouts ≤ n then
          writeDark scope (s.sched.accum.map (· / n)) s.corr.dark
        else s.corr.dark }
    sched := { s.sched with accum := [] } }

/-- All segments as the all-segment reference leaves them (R36, R37). -/
def State.allCurrent (s : State) (accepted : Bool) : State :=
  { s with sched := { s.sched with
      segs := s.sched.segs.map fun g =>
        { state := .current
          lastReference := if accepted then some s.nodeTime else g.lastReference
          postponed := 0 }
      allRunning := false } }

/-- The 16th readout of the cycle of segment i (R34). -/
def State.cycleComplete (s : State) (i : Fin 8) : State :=
  ((s.endReference (.segment i) Config.fullReadouts).renewSeg i).dueTest

/-- The cycle of segment i is truncated by the all-segment request (R35). -/
def State.truncateForAll (s : State) (i : Fin 8) (n : Nat) : State :=
  let t := s.stopReference.endReference (.segment i) n
  if Config.acceptReadouts ≤ n then t.renewSeg i
  else t.setSeg i { t.seg i with state := .due, postponed := 0 }

/-- The all-segment reference is asked for at an entry to REFERENCING (R35; log 14). -/
def State.startAll (s : State) : State :=
  let t := match s.head.reference with
    | some r =>
      match r.scope with
      | .segment i => s.truncateForAll i r.taken
      | .all => s
    | none => s
  { t with sched := { t.sched with
      allRunning := true, accum := List.replicate Config.columns 0 } }.requestReference .all

/-- A cycle of segment i of `n` readouts is cut short by the head (R37). -/
def State.truncateCycle (s : State) (i : Fin 8) (n : Nat) : State :=
  let t := s.stopReference.endReference (.segment i) n
  if Config.acceptReadouts ≤ n then t.renewSeg i
  else t.setSeg i { t.seg i with state := .current, postponed := 0 }

/-- An all-segment reference of `n` readouts is cut short by the head (R37). -/
def State.truncateAll (s : State) (n : Nat) : State :=
  (s.stopReference.endReference .all n).allCurrent (Config.acceptReadouts ≤ n)

/-- Head fault cuts the scheduler's cycle short, whichever runs (R26, R37). -/
def State.truncateByFault (s : State) : State :=
  match s.head.reference with
  | none => s
  | some r =>
    match r.scope with
    | .segment i => s.truncateCycle i r.taken
    | .all => s.truncateAll r.taken

end Sys2Proof.Machine
end

