-- ==== Sys2Proof/Machine/Tracer.lean ====
section
/-! DEFINITION. The tracer (chapter 4): matching, joining, extension, opening, aging, closing,
splitting, and the way from a closed trace to a finding. -/

namespace Sys2Proof.Machine

/-! ### Matching and groups (R61, R62) -/

/-- Does a run match a last span? (R61) -/
def Run.matchesSpan (r : Run) (lo hi tolerance : Nat) : Bool :=
  r.lo ≤ hi + tolerance && lo ≤ r.hi + tolerance

/-- The slots whose trace a run matches, ascending. -/
def matchedSlots (slots : List (Option Trace)) (tolerance : Nat) (r : Run) : List Nat :=
  (List.range slots.length).filter fun i =>
    (slots.getD i none).any fun t => r.matchesSpan t.spanLo t.spanHi tolerance

/-- Traces and runs linked by matches (R62): the slots, ascending, and the runs, ascending. -/
structure TraceGroup where
  slots : List Nat
  runs  : List Run
  deriving DecidableEq, Repr

/-- A run that matches `slots` links every group that holds one of them (R62). -/
def linkRun (r : Run) (slots : List Nat) (groups : List TraceGroup) : List TraceGroup :=
  if slots.isEmpty then groups
  else
    let linked := groups.filter fun g => g.slots.any slots.contains
    let others := groups.filter fun g => !g.slots.any slots.contains
    others ++ [{
      slots := (List.range Config.traceSlots).filter fun i =>
        slots.contains i || linked.any fun g => g.slots.contains i
      runs := (linked.map TraceGroup.runs).flatten ++ [r] }]

/-- The groups of a line (R62). -/
def groupsOf (slots : List (Option Trace)) (tolerance : Nat) (runs : List Run) :
    List TraceGroup :=
  runs.foldl (fun groups r => linkRun r (matchedSlots slots tolerance r) groups) []

/-! ### Joining, extension and opening (R62 to R67) -/

/-- The smaller range that covers two column ranges, an absent one left out (R62, R64). -/
def coverExtent : Option (Nat × Nat) → Option (Nat × Nat) → Option (Nat × Nat)
  | none, e => e
  | e, none => e
  | some (a, b), some (c, d) => some (min a c, max b d)

/-- The oldest of the traces in some slots (R59): lowest first position, then lowest slot. -/
def oldestSlot (slots : List (Option Trace)) : List Nat → Option (Nat × Trace)
  | [] => none
  | i :: rest =>
    match slots.getD i none, oldestSlot slots rest with
    | none, o => o
    | some t, none => some (i, t)
    | some t, some (j, u) => if t.first ≤ u.first then some (i, t) else some (j, u)

/-- A survivor takes the content of another trace of its group (R62). -/
def Trace.absorb (t u : Trace) : Trace :=
  { t with
    extent := coverExtent t.extent u.extent
    peak := max t.peak u.peak
    lines := max t.lines u.lines
    flags := t.flags.union u.flags }

/-- The columns from the lowest start to the highest end of some runs (R63, R64). -/
def runsExtent (runs : List Run) : Option (Nat × Nat) :=
  runs.foldl (fun e r => coverExtent e (some (r.lo, r.hi))) none

/-- Does a run have a column in a segment of the set? (R65) -/
def Run.inSet (r : Run) (m : SegMask) : Bool :=
  (List.range 8).any fun s => SegMask.has m s && segOf r.lo ≤ s && s ≤ segOf r.hi

/-- The flags a trace takes from a line by the runs it took on it (R65). -/
def lineFlags (line : ProcessedLine) (runs : List Run) : FindingFlags :=
  { unverified := runs.any (Run.inSet · line.stale), crowded := line.crowded }

/-- A trace extended by runs of a line (R63, R64, R65). -/
def Trace.extend (t : Trace) (line : ProcessedLine) (runs : List Run) : Trace :=
  let span := runsExtent runs
  { t with
    last := line.position
    spanLo := (span.map Prod.fst).getD t.spanLo
    spanHi := (span.map Prod.snd).getD t.spanHi
    extent := coverExtent t.extent span
    peak := (runs.map Run.peak).foldl max t.peak
    lines := t.lines + 1
    idle := 0
    flags := (t.flags.union (lineFlags line runs)).union { branched := 1 < runs.length } }

/-- The slots after one group has been joined and its survivor extended (R62 to R65). -/
def applyGroup (line : ProcessedLine) (slots : List (Option Trace)) (g : TraceGroup) :
    List (Option Trace) :=
  match oldestSlot slots g.slots with
  | none => slots
  | some (i, t) =>
    let others := g.slots.filter (· != i)
    let joined := (others.filterMap fun j => slots.getD j none).foldl Trace.absorb t
    let survivor := { joined with
      flags := joined.flags.union { branched := !others.isEmpty } }
    (others.foldl (fun acc j => acc.set j none) slots).set i (some (survivor.extend line g.runs))

/-- The trace a run opens (R65, R66). -/
def openTrace (line : ProcessedLine) (r : Run) : Trace :=
  { first := line.position, last := line.position, spanLo := r.lo, spanHi := r.hi
    extent := some (r.lo, r.hi), peak := r.peak, lines := 1, idle := 0
    flags := lineFlags line [r] }

/-- The lowest-numbered free slot takes a trace; none where no slot is free (R59, R66). -/
def openSlot (t : Trace) : List (Option Trace) → Option (List (Option Trace))
  | [] => none
  | none :: rest => some (some t :: rest)
  | some u :: rest => (openSlot t rest).map (some u :: ·)

/-- Unmatched runs open traces in ascending order; how many found no slot (R66, R67). -/
def openRuns (line : ProcessedLine) : List Run → List (Option Trace) →
    List (Option Trace) × Nat
  | [], slots => (slots, 0)
  | r :: rest, slots =>
    match openSlot (openTrace line r) slots with
    | some next => openRuns line rest next
    | none =>
      let (final, dropped) := openRuns line rest slots
      (final, dropped + 1)

/-! ### Aging, closing and splitting (R68 to R71) -/

/-- Does every column of the last span lie in a blind segment of the line? (R69) -/
def Trace.whollyBlind (t : Trace) (blind : SegMask) : Bool :=
  (List.range 8).all fun s => !(segOf t.spanLo ≤ s && s ≤ segOf t.spanHi) || SegMask.has blind s

/-- A trace that was not extended ages, unless the blind hold applies (R68, R69). -/
def Trace.age (t : Trace) (blind : SegMask) : Trace :=
  if t.whollyBlind blind then { t with flags := { t.flags with held := true } }
  else { t with idle := t.idle + 1 }

/-- The slots after aging: `extended` are the slots of the line's groups, `before` the slots at the
start of the event (R68). -/
def ageSlots (blind : SegMask) (extended : List Nat) (before slots : List (Option Trace)) :
    List (Option Trace) :=
  slots.mapIdx fun i slot =>
    if (before.getD i none).isSome && !extended.contains i then slot.map (Trace.age · blind)
    else slot

/-- The trace a slot closes on a line, on idle or by a split (R70, R71). -/
def closedIn (gapLines : Nat) (slot : Option Trace) : Option Trace :=
  match slot with
  | none => none
  | some t =>
    if gapLines < t.idle then some t
    else if Config.splitLines ≤ t.lines then
      some { t with flags := { t.flags with continued := true } }
    else none

/-- The continuation of a split trace (R71). -/
def continuation (line : ProcessedLine) (pitch : Nat) (t : Trace) : Trace :=
  { first := line.position + pitch, last := line.position, spanLo := t.spanLo, spanHi := t.spanHi
    extent := none, peak := 0, lines := 0, idle := 0, flags := { continued := true } }

/-- What a slot holds after closing and splitting (R70, R71). -/
def keptIn (line : ProcessedLine) (pitch gapLines : Nat) (slot : Option Trace) : Option Trace :=
  match slot with
  | none => none
  | some t =>
    if gapLines < t.idle then none
    else if Config.splitLines ≤ t.lines then some (continuation line pitch t)
    else some t

/-- A closed trace takes its place by first position, after those of an equal one (R75). -/
def insertClosed (t : Trace) : List Trace → List Trace
  | [] => [t]
  | u :: rest => if t.first < u.first then t :: u :: rest else u :: insertClosed t rest

/-- Closed traces, given by ascending slot, in the order of R75. -/
def closedOrder (closed : List Trace) : List Trace :=
  closed.foldl (fun acc t => insertClosed t acc) []

/-! ### From closed trace to finding (R75 to R80) -/

/-- The class of a closed trace with extent [lo, hi] (R76). -/
def classify (v : Setup) (length : Int) (lo hi : Nat) : FindingClass :=
  if v.transverseExtent ≤ hi - lo + 1 ∧ length < v.longitudinalLength then .transverse
  else if decide (lo < v.cornerZone) != decide (Config.columns ≤ hi + v.cornerZone) then .corner
  else if (v.longitudinalLength : Int) ≤ length then .longitudinal
  else .minor

/-- The severity of a peak (R77). -/
def severityOf (v : Setup) (peak : Nat) : Nat :=
  if peak < v.s1 then 0 else if peak < v.s2 then 1 else if peak < v.s3 then 2 else 3

/-- The finding of a closed trace with extent [lo, hi], under the next finding id (R78). -/
def State.findingOf (s : State) (v : Setup) (t : Trace) (lo hi : Nat) : Finding :=
  let cls := classify v (t.last - t.first + v.linePitch) lo hi
  { origin := s.ownId
    id := s.tracer.nextId
    face := s.ctl.face
    cls := cls
    severity := severityOf v t.peak
    start := t.first
    stop := t.last
    colMin := lo
    colMax := hi
    peak := t.peak
    lines := t.lines
    flags := { t.flags with
      cornerLow := cls == .corner && decide (lo < v.cornerZone)
      cornerHigh := cls == .corner && !decide (lo < v.cornerZone) }
    test := v.synthetic }

/-- A finding takes its id and is handed to the record unit, then to the transmit queue (R79, R80). -/
def State.handFinding (s : State) (f : Finding) : State :=
  let t := { s with tracer := { s.tracer with
    nextId := (s.tracer.nextId + 1) % 65536, made := s.tracer.made + 1 } }
  (t.handEntry (.finding f)).handFrame (t.toStrand f.test (.finding f s.tracer.made))

/-- One closed trace is dismissed or made a finding; an unextended continuation yields nothing (R71,
R77 to R80). -/
def State.takeClosed (v : Setup) (s : State) (t : Trace) : State :=
  match t.extent with
  | none => s
  | some (lo, hi) =>
    let f := s.findingOf v t lo hi
    if f.cls = .minor ∧ f.severity = 0 then s.count .dismissed else s.handFinding f

/-- The traces that close in one event (R75). -/
def State.takeAllClosed (s : State) (v : Setup) (closed : List Trace) : State :=
  (closedOrder closed).foldl (State.takeClosed v) s

/-! ### One processed line (R60) -/

/-- The runs of a line dropped for want of a slot are counted and noted (R67). -/
def State.dropRuns (s : State) (v : Setup) (line : ProcessedLine) (dropped : Nat) : State :=
  if dropped = 0 then s else (s.countBy .traceOverflow dropped).noteLine v line.position

/-- The eight steps of R60. -/
def State.traceLine (s : State) (v : Setup) (line : ProcessedLine) : State :=
  let before := s.tracer.slots
  let groups := groupsOf before v.columnTolerance line.runs
  let extended := groups.foldl (applyGroup line) before
  let free := line.runs.filter fun r => (matchedSlots before v.columnTolerance r).isEmpty
  let (opened, dropped) := openRuns line free extended
  let aged := ageSlots line.blind (groups.map TraceGroup.slots).flatten before opened
  let t := (s.dropRuns v line dropped)
  { t with tracer := { t.tracer with
      slots := aged.map (keptIn line v.linePitch v.gapLines) } }.takeAllClosed v
    (aged.filterMap (closedIn v.gapLines))

/-! ### Forced closes (R73, R74) -/

/-- Every open trace closes; the slots and the last close (R73, R74). -/
def State.closeAll (s : State) (v : Setup) (kind : CloseKind) : State :=
  let closed := s.tracer.slots.filterMap fun slot => slot.map fun t =>
    { t with flags := { t.flags with
        interrupted := t.flags.interrupted || kind == .headFault } }
  { s with tracer := { s.tracer with
      slots := List.replicate Config.traceSlots none
      lastClose := some { kind := kind, position := s.travel.lastLine } } }.takeAllClosed v closed

end Sys2Proof.Machine
end

