-- ==== Sys2Proof/Machine/Modes.lean ====
section
/-! DEFINITION. The changes of mode of a configured node (chapter 10): entry to INSPECTING, strand end,
head fault and recovery (log 28 gives the order of the blocks' reports). -/

namespace Sys2Proof.Machine

def State.setMode (s : State) (m : Mode) : State := { s with ctl := { s.ctl with mode := m } }

/-- The line in flight is gone (R21 to R23). -/
def State.dropLine (s : State) : State := { s with head := { s.head with line := none } }

/-- Entry to INSPECTING (R193, R6). -/
def State.enterInspecting (s : State) (v : Setup) : State :=
  let t := s.setMode .inspecting
  ({ t with travel := { t.travel with
      lastLine := floorTo v.linePitch t.travel.highWater } }.coveringTest v).recompute

/-- The all-segment reference has completed (R193). -/
def State.referenceDone (s : State) (v : Setup) : State :=
  match s.travel.strand with
  | .asserted => s.enterInspecting v
  | .clear => (s.setMode .waiting).recompute

/-- Strand end (R195). -/
def State.strandEnd (s : State) (v : Setup) : State :=
  let t := ((s.setMode .referencing).dropLine.closeAll v .strandEnd).abortBuild
  (t.startAll.coveringTest v).recompute

/-- A line in flight is abandoned with a LOSS note (R23). -/
def State.abandonNoted (s : State) (v : Setup) : State :=
  match s.head.line with
  | none => s
  | some l => s.dropLine.noteLine v l.position

/-- Entry to HEAD-FAULT (R26, R196), but for the recomputation of the own clear-to, which the command
makes at its end (log 10). -/
def State.enterHeadFault (s : State) (v : Setup) : State :=
  let t := (((s.setFlag .headFault).setMode .headFault).abandonNoted v).truncateByFault
  let u := { t with head := { t.head with
    probeTimer := some (t.nodeTime + Config.probePeriod) } }
  ((u.closeAll v .headFault).abortBuild).coveringTest v

/-- Is the mode one from which head fault is entered? (R26) -/
def Mode.faults : Mode → Bool
  | .referencing => true
  | .waiting => true
  | .inspecting => true
  | .unstrapped => false
  | .unconfigured => false
  | .headFault => false

/-- The consecutive timeout count rises; at 16 the node enters HEAD-FAULT (R22, R25, R26). -/
def State.countTimeout (s : State) (v : Setup) : State :=
  let t := { s with head := { s.head with
    timeouts := min Config.faultTimeouts (s.head.timeouts + 1) } }
  if t.head.timeouts = Config.faultTimeouts ∧ t.ctl.mode.faults then t.enterHeadFault v else t

/-- Recovery by a current probe arrival (R27, R196). -/
def State.recover (s : State) : State :=
  let t := { s with head := { s.head with probe := none, probeTimer := none, timeouts := 0 } }
  (t.setMode .referencing).startAll.recompute

end Sys2Proof.Machine
end

