-- ==== Sys2Proof/Machine/Head.lean ====
section
/-! DEFINITION. The commands of the head port, of the reference scheduler and of the tracer (chapters 2
to 4): LINE_ARRIVAL, LINE_TIMEOUT, REFERENCE_READOUT, READOUT_TIMEOUT, PROBE_TIMER_EXPIRY,
PROBE_TIMEOUT, PROBE_ARRIVAL, TICK and PROCESSED_LINE. -/

namespace Sys2Proof.Machine

/-- The consecutive timeout count becomes 0 (R19, R21, R24). -/
def State.clearTimeouts (s : State) : State := { s with head := { s.head with timeouts := 0 } }

/-- What a stale arrival or readout does (R19). -/
def State.takeStale (s : State) : State :=
  if s.ctl.mode = .headFault then s else s.clearTimeouts

/-! ### Arrivals (R21, R27) -/

/-- A current line arrival (R21). -/
def State.takeLine (s : State) (line : LineInFlight) (raw : List (BitVec 12))
    (withheld : SegMask) : State :=
  let t := s.dropLine.clearTimeouts
  match s.ctl.setup with
  | none => t
  | some v =>
    if s.ctl.mode = .inspecting then (t.correctLine v line raw withheld).recompute
    else t.recompute

/-- An arrival at the head port: a current line, a current probe answer, or stale (R19, R21, R27;
log 24). -/
def State.takeArrival (s : State) (tag : BitVec 8) (raw : List (BitVec 12)) (withheld : SegMask) :
    State :=
  match s.head.line.filter fun l => l.tag == tag with
  | some line => s.takeLine line raw withheld
  | none => if s.head.probe.any fun p => p.tag == tag then s.recover else s.takeStale

/-- LINE_ARRIVAL (R21). -/
def execLineArrival (dt : Nat) (tag : BitVec 8) (raw : List (BitVec 12)) (withheld : SegMask)
    (s : State) : Host.Outcome State Fault Refusal :=
  event dt (State.takeArrival · tag raw withheld) s

/-- PROBE_ARRIVAL (R27): the same arrival, as it answers a probe (log 24). -/
def execProbeArrival (dt : Nat) (tag : BitVec 8) (raw : List (BitVec 12)) (withheld : SegMask)
    (s : State) : Host.Outcome State Fault Refusal :=
  event dt (State.takeArrival · tag raw withheld) s

/-! ### Line timeout (R22) -/

/-- The line timer of a line in flight expires (R22). -/
def State.timeOutLine (s : State) (v : Setup) (line : LineInFlight) : State :=
  (((s.dropLine.count .lineTimeout).noteLine v line.position).countTimeout v).recompute

/-- Is a request due that waits since `requestedAt`? (R20, R27) -/
def waitOver (now requestedAt : Nat) : Bool := requestedAt + Config.headWait ≤ now

/-- The line timer expires (R22). -/
def State.takeLineTimeout (s : State) : State :=
  match s.head.line, s.ctl.setup with
  | some line, some v => if waitOver s.nodeTime line.requestedAt then s.timeOutLine v line else s
  | _, _ => s

/-- LINE_TIMEOUT (R22). -/
def execLineTimeout (dt : Nat) (s : State) : Host.Outcome State Fault Refusal :=
  event dt State.takeLineTimeout s

/-! ### Readouts (R24, R25, R33) -/

/-- The accumulators after one readout (R33; log 22). -/
def addReadout : List Nat → List Nat → List Nat
  | x :: sums, r :: raw => (x + r) :: addReadout sums raw
  | sums, _ => sums

/-- A reference has taken its 16th readout (R24, R34, R36). -/
def State.referenceFull (s : State) (scope : Scope) : State :=
  let t := { s with head := { s.head with reference := none } }
  match scope with
  | .segment i => t.cycleComplete i
  | .all =>
    let u := (t.endReference .all Config.fullReadouts).allCurrent true
    let w := { u with sched := { u.sched with pointer := 0, ticks := 0 } }
    match s.ctl.setup with
    | none => w
    | some v => w.referenceDone v

/-- A current readout of the reference outstanding (R24, R33). -/
def State.takeReadout (s : State) (r : Reference) (raw : List (BitVec 12)) : State :=
  let t := { s with
    head := { s.head with
      timeouts := 0
      reference := some { r with taken := r.taken + 1, due := s.nodeTime + Config.headWait } }
    sched := { s.sched with accum := addReadout s.sched.accum (raw.map BitVec.toNat) } }
  if Config.fullReadouts ≤ r.taken + 1 then t.referenceFull r.scope else t

/-- A readout arrives at the head port (R19, R24). -/
def State.takeReadoutTag (s : State) (tag : BitVec 8) (raw : List (BitVec 12)) : State :=
  match s.head.reference.filter fun r => r.tag == tag with
  | some r => s.takeReadout r raw
  | none => s.takeStale

/-- REFERENCE_READOUT (R24). -/
def execReferenceReadout (dt : Nat) (tag : BitVec 8) (raw : List (BitVec 12)) (s : State) :
    Host.Outcome State Fault Refusal :=
  event dt (State.takeReadoutTag · tag raw) s

/-- A fresh all-segment request keeps the readouts taken (R25). -/
def State.renewRequest (s : State) (taken : Nat) : State :=
  let t := s.requestReference .all
  { t with head := { t.head with
      reference := t.head.reference.map fun r => { r with taken := taken } } }

/-- The readout timer of the reference outstanding expires (R25; logs 13 and 14). -/
def State.timeOutReadout (s : State) (v : Setup) (r : Reference) : State :=
  let t := s.count .lineTimeout
  match r.scope with
  | .segment i =>
    let u := (t.truncateCycle i r.taken).countTimeout v
    if u.ctl.mode = .headFault then u.recompute else u.dueTest
  | .all =>
    let u := (t.renewRequest r.taken).countTimeout v
    if u.ctl.mode = .headFault then u.recompute else u

/-- The readout timer expires (R25). -/
def State.takeReadoutTimeout (s : State) : State :=
  match s.head.reference, s.ctl.setup with
  | some r, some v => if r.due ≤ s.nodeTime then s.timeOutReadout v r else s
  | _, _ => s

/-- READOUT_TIMEOUT (R25). -/
def execReadoutTimeout (dt : Nat) (s : State) : Host.Outcome State Fault Refusal :=
  event dt State.takeReadoutTimeout s

/-! ### Probes (R27) -/

/-- A probe is requested (R27). -/
def State.requestProbe (s : State) : State :=
  let t := s.port (.probeRequest s.head.tag 0)
  { t with head := { t.head with
      tag := s.head.tag + 1
      probe := some { tag := s.head.tag, requestedAt := s.nodeTime } } }

/-- The probe timer expires (R27; log 33). -/
def State.takeProbeTimer (s : State) : State :=
  match s.head.probeTimer with
  | none => s
  | some due =>
    if due ≤ s.nodeTime then
      let t := { s with head := { s.head with probeTimer := some (due + Config.probePeriod) } }
      if s.head.probe.isNone then t.requestProbe else t
    else s

/-- PROBE_TIMER_EXPIRY (R27). -/
def execProbeTimerExpiry (dt : Nat) (s : State) : Host.Outcome State Fault Refusal :=
  event dt State.takeProbeTimer s

/-- A probe not answered within 20 ms becomes absent (R27). -/
def State.takeProbeTimeout (s : State) : State :=
  if s.head.probe.any fun p => waitOver s.nodeTime p.requestedAt then
    { s with head := { s.head with probe := none } }
  else s

/-- PROBE_TIMEOUT (R27). -/
def execProbeTimeout (dt : Nat) (s : State) : Host.Outcome State Fault Refusal :=
  event dt State.takeProbeTimeout s

/-! ### Ticks (R29) -/

/-- The tick period: the reference interval × 1000 / 8 ms (R29). -/
def tickPeriod (v : Setup) : Nat := v.referenceInterval * 1000 / 8

/-- The tick timer expires (R29; log 33). -/
def State.takeTick (s : State) : State :=
  match s.sched.tickTimer, s.ctl.setup with
  | some due, some v =>
    if due ≤ s.nodeTime then
      { s with sched := { s.sched with
          tickTimer := some (due + tickPeriod v)
          ticks := min Config.tickLimit (s.sched.ticks + 1) } }.dueTest
    else s
  | _, _ => s

/-- TICK (R29). -/
def execTick (dt : Nat) (s : State) : Host.Outcome State Fault Refusal :=
  event dt State.takeTick s

/-! ### The tracer's line (R60) -/

/-- Was the line handed over before the last close? (R60) -/
def State.closedBefore (s : State) (line : ProcessedLine) : Bool :=
  s.tracer.lastClose.any fun c => line.position ≤ c.position

/-- A line handed over before the last close is discarded, with a note after a head fault (R60). -/
def State.discardLine (s : State) (v : Setup) (line : ProcessedLine) : State :=
  if s.tracer.lastClose.any fun c => c.kind == .headFault then s.noteLine v line.position else s

/-- The tracer takes the oldest line that awaits it (R60). -/
def State.takeProcessed (s : State) : State :=
  match s.tracer.awaiting, s.ctl.setup with
  | line :: rest, some v =>
    let t := { s with tracer := { s.tracer with awaiting := rest } }
    if s.closedBefore line then (t.discardLine v line).recompute
    else ((t.traceLine v line).recompute).lineBoundary v
  | _, _ => s

/-- PROCESSED_LINE (R60). -/
def execProcessedLine (dt : Nat) (s : State) : Host.Outcome State Fault Refusal :=
  event dt State.takeProcessed s

end Sys2Proof.Machine
end

