-- ==== Sys2Proof/Machine/Line.lean ====
section
/-! DEFINITION. The sending side of the transceiver (chapter 5) and what HORIZON frames carry (R126,
R127): TRANSMIT_TRY, ARBITRATION_LOST, COLLISION, FRAME_SENT_WHOLE, NEW_FRAME_BEGINS and
IDLE_GAP_AFTER_RESET. -/

namespace Sys2Proof.Machine

/-! ### The body of a HORIZON frame (R126, R127, R205) -/

/-- Finding id and ordinal of a FINDING frame (R127; log 20). -/
def TxFrame.findingId (f : TxFrame) : Option (Nat × Nat) :=
  match f.body with
  | .finding g ordinal => some (g.id, ordinal)
  | _ => none

/-- The last-finding-id-valid bit and the last finding id sent (R127). -/
def State.lastFinding (s : State) : Bool × Nat :=
  match (s.xcvr.queue.filterMap TxFrame.findingId).head? with
  | some (id, ordinal) => (0 < ordinal, (id + 65535) % 65536)
  | none => (0 < s.tracer.made, (s.tracer.nextId + 65535) % 65536)

/-- The status byte of a HORIZON body (R205). -/
def State.horizonStatus (s : State) : Nat :=
  s.ctl.mode.code * 32 + bitValue s.hz.ownGap.isNone 4 + bitValue (s.flag .headFault) 3
    + bitValue (s.corr.build == .busy) 2 + bitValue s.lastFinding.1 1
    + bitValue (!s.hz.notes.isEmpty) 0

/-- The note fields of a HORIZON body (R205). -/
def noteBytes (notes : List Note) : List Byte :=
  match notes with
  | [] => []
  | n :: rest => positionBytes n.start ++ positionBytes n.stop ++ [byteOf rest.length]

/-- The body of a HORIZON frame at its take (R126, R205). -/
def State.horizonBytes (s : State) : List Byte :=
  positionBytes s.travel.position ++ positionBytes s.hz.ownClearTo
    ++ [byteOf s.horizonStatus, s.staleSet] ++ bytesBE 2 s.lastFinding.2 ++ noteBytes s.hz.notes

/-- The body bytes of a frame at its take (R89, R205, R206). -/
def State.bodyBytes (s : State) (body : TxBody) : List Byte :=
  match body with
  | .cut number position => cutBytes number position
  | .finding f _ => findingBytes f
  | .horizon => s.horizonBytes
  | .verdict v => verdictBytes v
  | .announce id strand face cause mode => announceBytes id strand face cause mode
  | .status bytes => bytes

/-! ### TRANSMIT_TRY (R89, R90) -/

/-- The check of a head and body, in two bytes (R87). -/
def checkBytes (head body : List Byte) : List Byte := bytesBE 2 (crc (head ++ body)).toNat

/-- The taken copy of a frame (R89). -/
def State.takeCopy (s : State) (f : TxFrame) : TakenCopy :=
  let body := s.bodyBytes f.body
  let head := headBytes f.body.classCode s.ownId s.linkFault f.address f.target f.test body.length
  { head := head
    body := body
    check := checkBytes head body
    clearTo := if f.isHorizon then some s.hz.ownClearTo else none }

/-- The head frame is taken and its try begins (R89, R90, R124). On a BUSY line the take comes first of
what falls together at the idle gap: the frame that ends there is yet to be qualified, but for the tail that
the first gap after a reset passes over (R95, R106; log 38). -/
def State.beginTry (s : State) (f : TxFrame) : State :=
  { s with
    xcvr := { s.xcvr with
      line := .busy
      firstGap := false
      ending := s.xcvr.line == .busy && !s.xcvr.firstGap
      send := .sending
      taken := some (s.takeCopy f) }
    hz := { s.hz with
      inDelivery := if f.isHorizon then s.hz.notes.head? else s.hz.inDelivery } }

/-- An idle gap completes, or the line is IDLE, and a frame waits: a try begins (R90; log 38). -/
def State.tryToSend (s : State) : State :=
  if s.xcvr.send = .waiting then
    match s.xcvr.queue with
    | [] => { s with xcvr := { s.xcvr with send := .empty } }
    | f :: _ => s.beginTry f
  else s

/-- TRANSMIT_TRY (R89). -/
def execTransmitTry (dt : Nat) (s : State) : Host.Outcome State Fault Refusal :=
  event dt State.tryToSend s

/-! ### The ends of a try (R91 to R94) -/

/-- A try ends without its frame sent whole: the frame waits, the note stays (R91, R92, R124; log 9). -/
def State.setAside (s : State) : State :=
  { s with
    xcvr := { s.xcvr with send := .waiting, taken := none, ending := false }
    hz := { s.hz with inDelivery := none } }

/-- Arbitration is lost (R91). -/
def State.loseArbitration (s : State) : State :=
  if s.xcvr.send = .sending then s.setAside else s

/-- ARBITRATION_LOST (R91). -/
def execArbitrationLost (dt : Nat) (s : State) : Host.Outcome State Fault Refusal :=
  event dt State.loseArbitration s

/-- The oldest frame leaves the queue (R93, R94). -/
def State.leaveQueue (s : State) : State :=
  { s with xcvr := { s.xcvr with
      queue := s.xcvr.queue.tail
      collisions := 0
      taken := none
      ending := false
      send := if s.xcvr.queue.tail.isEmpty then .empty else .waiting } }

/-- A dropped frame is reported to the block that queued it (R93, R162). -/
def State.reportDrop (s : State) (body : TxBody) : State :=
  match body with
  | .finding _ _ => s.recompute
  | .verdict _ => s.count .verdictLost
  | .horizon => s
  | .cut _ _ => s
  | .announce _ _ _ _ _ => s
  | .status _ => s

/-- A frame suffers a collision (R92, R93). -/
def State.collide (s : State) : State :=
  if s.xcvr.send = .sending then
    let t := s.setAside.count .txCollision
    if t.xcvr.collisions < 2 then
      { t with xcvr := { t.xcvr with collisions := t.xcvr.collisions + 1 } }
    else
      match t.xcvr.queue with
      | [] => t.leaveQueue
      | f :: _ => (t.leaveQueue.count .txDrop).reportDrop f.body
  else s

/-- COLLISION (R92). -/
def execCollision (dt : Nat) (s : State) : Host.Outcome State Fault Refusal :=
  event dt State.collide s

/-- The note in delivery is delivered (R124). -/
def State.deliverNote (s : State) : State :=
  match s.hz.inDelivery with
  | none => s
  | some n =>
    let t := s.handEntry (.loss s.ownId n.start n.stop)
    { t with hz := { t.hz with notes := t.hz.notes.tail, inDelivery := none } }.recompute

/-- A HORIZON frame has been sent whole with this clear-to (R94, R125, R126; log 11). -/
def State.horizonSent (s : State) (clearTo : Option Int) : State :=
  match s.ctl.setup with
  | none => s
  | some v => { s with hz := { s.hz with
      lastSent := clearTo
      timer := some (s.nodeTime + v.horizonPeriod) } }.deliverNote

/-- A frame sent whole is reported to the block that queued it (R94, R162). -/
def State.reportSent (s : State) (body : TxBody) (clearTo : Option Int) : State :=
  match body with
  | .finding _ _ => s.recompute
  | .horizon => s.horizonSent clearTo
  | .verdict _ => s
  | .cut _ _ => s
  | .announce _ _ _ _ _ => s
  | .status _ => s

/-- The receive buffer is emptied (R95). -/
def Transceiver.emptyBuffer (x : Transceiver) : Transceiver :=
  { x with buffer := [], beyond := 0, broken := false }

/-- A frame is sent whole, and its idle gap completes (R94 to R96; log 7). -/
def State.sentWhole (s : State) : State :=
  if s.xcvr.send = .sending then
    let clearTo := s.xcvr.taken.bind TakenCopy.clearTo
    let t := s.leaveQueue
    let u := { t with xcvr := { t.xcvr.emptyBuffer with line := .idle } }
    match s.xcvr.queue with
    | [] => u
    | f :: _ => u.reportSent f.body clearTo
  else s

/-- FRAME_SENT_WHOLE (R94). -/
def execFrameSentWhole (dt : Nat) (s : State) : Host.Outcome State Fault Refusal :=
  event dt State.sentWhole s

/-! ### The line (R95) -/

/-- The first dominant bit after the line was IDLE (R95). -/
def State.frameBegins (s : State) : State :=
  if s.xcvr.line = .idle then
    { s with xcvr := { s.xcvr.emptyBuffer with line := .busy } }
  else s

/-- NEW_FRAME_BEGINS (R95). -/
def execNewFrameBegins (dt : Nat) (s : State) : Host.Outcome State Fault Refusal :=
  event dt State.frameBegins s

/-- The first idle gap after a reset completes (R95, R107). -/
def State.firstIdle (s : State) : State :=
  if s.xcvr.firstGap then
    { s with xcvr := { s.xcvr.emptyBuffer with line := .idle, firstGap := false } }
  else s

/-- IDLE_GAP_AFTER_RESET (R95). -/
def execIdleGapAfterReset (dt : Nat) (s : State) : Host.Outcome State Fault Refusal :=
  event dt State.firstIdle s

end Sys2Proof.Machine
end

