-- ==== Sys2Proof/Machine/Receive.lean ====
section
/-! DEFINITION. Reception (chapter 5): the end of a frame, its qualification, and the hand-off that the
ten frame-end commands share (R95 to R104). -/

namespace Sys2Proof.Machine

/-- What the qualification of a frame finds (R97 to R103). -/
inductive Qualified
  | failed (flag : DiagFlag) (counter : Counter)
  | ownSender
  | notAddressed
  | passed (head : FrameHead) (body : List Byte)
  deriving DecidableEq, Repr

/-- The characters of a frame stand in the receive buffer: 68 kept, the rest counted (R95; log 30). -/
def State.load (s : State) (f : RxFrame) : State :=
  { s with xcvr := { s.xcvr with
      buffer := f.chars.take Config.bufferLimit
      beyond := f.chars.length - Config.bufferLimit
      broken := f.broken } }

/-- LENGTH (R97). -/
def Transceiver.lengthOk (x : Transceiver) : Bool :=
  5 ≤ x.buffer.length + x.beyond && !x.broken
    && x.buffer.length + x.beyond == 3 + (parseHead x.buffer).length + 2

/-- The body of a frame of right length (R87). -/
def Transceiver.body (x : Transceiver) : List Byte :=
  (x.buffer.drop 3).take (parseHead x.buffer).length

/-- CHECK (R98). -/
def Transceiver.checkOk (x : Transceiver) : Bool :=
  checkBytes (x.buffer.take 3) x.body == x.buffer.drop (3 + (parseHead x.buffer).length)

/-- Is a head addressed to the node? (R100) -/
def State.addressed (s : State) (h : FrameHead) : Bool :=
  match h.address with
  | .invalid => true
  | .individual => s.ctl.nodeId == some h.target
  | .strandGroup => h.target + 1 == s.ctl.strand
  | .all => true

/-- STATE (R102). -/
def State.stateOk (s : State) (c : FrameClass) : Bool :=
  match c with
  | .setup => s.ctl.mode == .unconfigured
  | .build => s.ctl.mode == .inspecting && s.corr.build != .busy
  | _ => true

/-- The checks in their order, the first that fails ending the qualification (R96 to R103). -/
def State.qualify (s : State) (c : FrameClass) : Qualified :=
  let h := parseHead s.xcvr.buffer
  if !s.xcvr.lengthOk then .failed .length .length
  else if !s.xcvr.checkOk then .failed .check .check
  else if s.ctl.nodeId == some h.sender then .ownSender
  else if !s.addressed h then .notAddressed
  else if !formOk c h s.xcvr.body then .failed .form .form
  else if !s.stateOk c then .failed .state .state
  else .passed h s.xcvr.body

/-- The line is IDLE, but where an own try has begun at the same idle gap, and the buffer is emptied for
the next frame (R95, R106; log 38). -/
def State.endFrame (s : State) : State :=
  { s with xcvr := { s.xcvr.emptyBuffer with
      line := if s.xcvr.send = .sending then .busy else .idle
      ending := false } }

/-- A frame of class `c` ends: while the first idle gap after a reset is awaited its end is that gap;
during an own try it has no effect, unless the try was taken at the idle gap that ends it (R106; log 38);
else it is qualified and handed on or discarded (R95, R103, R104; logs 8 and 30). -/
def State.receive (c : FrameClass) (f : RxFrame) (hand : FrameHead → List Byte → State → State)
    (s : State) : State :=
  if s.xcvr.send = .sending ∧ s.xcvr.ending = false then s
  else if s.xcvr.firstGap then s.firstIdle
  else
    match (s.load f).qualify c with
    | .failed flag counter => (s.load f).endFrame.linkFailure flag counter
    | .ownSender => (s.load f).endFrame.setFlag .idClash
    | .notAddressed => (s.load f).endFrame
    | .passed h body => hand h body (s.load f).endFrame

/-- The four modes of a configured node. -/
def Mode.configured : Mode → Bool
  | .unstrapped => false
  | .unconfigured => false
  | .referencing => true
  | .waiting => true
  | .inspecting => true
  | .headFault => true

/-! ### Peer records (R108, R109) -/

/-- The peer record of an ID. -/
def State.peer (s : State) (id : Nat) : Option Peer := s.hz.peers.find? fun p => p.id == id

/-- The peer record with this record's ID is replaced by it. -/
def State.setPeer (s : State) (p : Peer) : State :=
  { s with hz := { s.hz with peers := s.hz.peers.map fun q => if q.id = p.id then p else q } }

/-- When a record heard at `heard` falls silent (R109). -/
def silenceAt (setup : Option Setup) (heard : Nat) : Option Nat :=
  setup.map fun v => heard + v.silenceTimeout

/-- A frame from the sender reaches the horizon unit: last heard and the silence timer (R109). -/
def State.hear (s : State) (sender : Nat) : State :=
  match s.peer sender with
  | none => s
  | some p => s.setPeer { p with
      lastHeard := s.nodeTime, silenceDue := silenceAt s.ctl.setup s.nodeTime }

/-- A position in a peer's coordinates placed with its offset (R108). -/
def place (offset position : Int) : Int := holdPosition (position + offset)

/-- Is a face held by the node or by a record other than this sender's? (R111) -/
def State.faceClash (s : State) (sender face : Nat) : Bool :=
  s.ctl.face == face || s.hz.peers.any fun p => p.id != sender && p.face == some face

/-- The face test (R111). -/
def State.testFace (s : State) (sender face : Nat) : State :=
  if s.faceClash sender face then s.setFlag .faceConflict else s

/-- A new record in JOINING (R110, R112). -/
def newPeer (id : Nat) (face : Option Nat) (now : Nat) (setup : Option Setup) : Peer :=
  { id := id, face := face, state := .joining, lastHeard := now, offset := none, clearTo := none
    covering := false, nextId := none, openGap := none, silenceDue := silenceAt setup now }

/-- A record joins the peer table; the table holds fewer than 8 (R110, R112). -/
def State.addPeer (s : State) (p : Peer) : State :=
  { s with hz := { s.hz with peers := s.hz.peers ++ [p] } }

/-- Is the peer table full? (R111) -/
def State.peersFull (s : State) : Bool := Config.peerLimit ≤ s.hz.peers.length

/-- A record has entered or left LIVE: the strand horizon is recomputed, then the billet unit told
(R110, R117, R120, R122, R161). -/
def State.liveChanged (s : State) : State :=
  match s.ctl.setup with
  | none => s
  | some v => (s.recomputeHorizon v).verdictDecision v

/-- The GAP that a record leaves when it leaves LIVE: that of its face, where it was covering (R110,
R120). -/
def Peer.leavingGap (p : Peer) : Option (Nat × Int) :=
  match p.state, p.covering, p.face, p.clearTo with
  | .live, true, some f, some c => some (f, c)
  | _, _, _, _ => none

/-- That GAP is handed to the record unit (R110, R120). -/
def State.handLeavingGap (s : State) (p : Peer) : State :=
  match p.leavingGap with
  | none => s
  | some (f, c) => s.handEntry (.gap f p.id c none)

/-- The record with the GAP just handed as its open gap, if one was. -/
def Peer.keepGap (p : Peer) : Peer := { p with openGap := p.leavingGap.orElse fun _ => p.openGap }

/-- The record that silence leaves (R120). -/
def Peer.silenced (p : Peer) : Peer :=
  { p.keepGap with state := .silent, covering := false, silenceDue := none }

end Sys2Proof.Machine
end

