-- ==== Sys2Proof/Machine/Peers.lean ====
section
/-! DEFINITION. Frames from peers and the timers of the horizon unit (chapters 6 and 8): CUT_FRAME,
FINDING_FRAME, HORIZON_FRAME, VERDICT_FRAME, ANNOUNCE_FRAME, SILENCE_TIMER_EXPIRY and
HORIZON_TIMER_EXPIRY. -/

namespace Sys2Proof.Machine

/-! ### CUT_FRAME (R119) -/

/-- A CUT is placed and handed to the billet unit, or dropped as UNPLACED (R119). -/
def State.placeCut (s : State) (v : Setup) (sender number : Nat) (position : Int) : State :=
  match (s.peer sender).bind Peer.offset with
  | none => s.count .unplaced
  | some offset => s.takeCut v true number (place offset position)

/-- A qualified CUT (R104, R119). -/
def State.takeCutFrame (h : FrameHead) (body : List Byte) (s : State) : State :=
  match s.ctl.setup with
  | none => s
  | some v =>
    if s.ctl.mode.configured then
      (s.hear h.sender).placeCut v h.sender (fieldAt body 0 4) (positionAt body 4)
    else s

/-- CUT_FRAME (R119). -/
def execCutFrame (dt : Nat) (frame : RxFrame) (s : State) : Host.Outcome State Fault Refusal :=
  event dt (State.receive .cut frame State.takeCutFrame) s

/-! ### FINDING_FRAME (R118) -/

/-- How far an id runs ahead of the next expected one, mod 65536 (R115, R118). -/
def ahead (id next : Nat) : Nat := (id + 65536 - next % 65536) % 65536

/-- A LOSS of the sender over the stretch between two positions, whichever is lower; the first is
left out where it is absent (R115, R118; log 23). -/
def lossBetween (sender : Nat) (a : Option Int) (b : Int) : Entry :=
  .loss sender (min (a.getD b) b) (max (a.getD b) b)

/-- The next expected id after a finding of this id (R118). -/
def expectAfter (id : Nat) (next : Option Nat) : Nat :=
  match next with
  | none => (id + 1) % 65536
  | some n => if ahead id n ≤ 32767 then (id + 1) % 65536 else n

/-- Findings missed before a finding of this id (R118). -/
def missedBefore (id : Nat) (next : Option Nat) : Nat :=
  match next with
  | none => 0
  | some n => if ahead id n ≤ 32767 then ahead id n else 0

/-- Missed findings are counted and handed on as a LOSS (R115, R118). -/
def State.reportMissed (s : State) (missed sender : Nat) (a : Option Int) (b : Int) : State :=
  if missed = 0 then s
  else (s.countBy .missed missed).handEntry (lossBetween sender a b)

/-- A finding from a record with this offset (R118). -/
def State.placeFinding (s : State) (p : Peer) (offset : Int) (f : Finding) : State :=
  let placed := { f with start := place offset f.start, stop := place offset f.stop }
  let t := if p.face.isNone then s.testFace p.id f.face else s
  let u := t.setPeer { p with
    face := some (p.face.getD f.face), nextId := some (expectAfter f.id p.nextId) }
  (u.reportMissed (missedBefore f.id p.nextId) p.id p.clearTo placed.start).handEntry
    (.finding placed)

/-- A FINDING is placed and handed to the record unit, or dropped as UNPLACED (R118); one that is dropped
gives its face to no record (log 36). -/
def State.takePeerFinding (s : State) (sender : Nat) (f : Finding) : State :=
  match s.peer sender with
  | none => s.count .unplaced
  | some p =>
    match p.offset with
    | none => s.count .unplaced
    | some offset => s.placeFinding p offset f

/-- A qualified FINDING (R104, R105). -/
def State.takeFindingFrame (h : FrameHead) (body : List Byte) (s : State) : State :=
  if s.ctl.mode.configured then
    (s.hear h.sender).takePeerFinding h.sender (parseFinding body h.test)
  else s

/-- FINDING_FRAME (R118). -/
def execFindingFrame (dt : Nat) (frame : RxFrame) (s : State) :
    Host.Outcome State Fault Refusal :=
  event dt (State.receive .finding frame State.takeFindingFrame) s

/-! ### HORIZON_FRAME (R112 to R117) -/

/-- Step 1: the offset, and SLIP where it jumped (R113). -/
def State.stepOffset (s : State) (v : Setup) (p : Peer) (offset : Int) : State :=
  if p.offset.any fun old => v.slipTolerance < distance offset old then s.count .slip else s

/-- Step 2: the note becomes a LOSS (R114). -/
def State.stepNote (s : State) (sender : Nat) (offset : Int) (note : Option (Int × Int)) : State :=
  match note with
  | none => s
  | some (a, b) => s.handEntry (.loss sender (place offset a) (place offset b))

/-- Findings missed according to the last finding id sent (R115). -/
def missedUpTo (valid : Bool) (last : Nat) (next : Option Nat) : Nat :=
  match valid, next with
  | true, some n => if ahead (last + 1) n ≤ 32767 then ahead (last + 1) n else 0
  | _, _ => 0

/-- The next expected id after a HORIZON (R115). -/
def expectFrom (valid : Bool) (last : Nat) : Nat := if valid then (last + 1) % 65536 else 0

/-- The open gap of a record after step 4 (R116). -/
def Peer.gapAfter (p : Peer) (covering : Bool) (clearTo : Int) : Option (Nat × Int) :=
  match p.face, covering, p.openGap with
  | some f, false, none => some (f, p.clearTo.getD clearTo)
  | some _, true, some _ => none
  | _, _, g => g

/-- Step 4: a GAP opens or closes (R116). -/
def State.stepCovering (s : State) (p : Peer) (covering : Bool) (clearTo : Int) : State :=
  match p.face, covering, p.openGap with
  | some f, false, none => s.handEntry (.gap f p.id (p.clearTo.getD clearTo) none)
  | some _, true, some (f, start) => s.closeGap f p.id start clearTo
  | _, _, _ => s

/-- The record after the five steps (R113, R115 to R117). -/
def Peer.afterHorizon (p : Peer) (b : HorizonBody) (offset : Int) : Peer :=
  let clearTo := place offset b.clearTo
  { p with
    state := .live
    offset := some offset
    clearTo := some clearTo
    covering := b.covering
    nextId := some (expectFrom b.lastValid b.lastId)
    openGap := p.gapAfter b.covering clearTo }

/-- The five steps of a HORIZON from a sender with this record (R112 to R117). -/
def State.fiveSteps (s : State) (v : Setup) (p : Peer) (b : HorizonBody) : State :=
  let offset := s.travel.position - b.stamp
  let clearTo := place offset b.clearTo
  let t := ((s.stepOffset v p offset).stepNote p.id offset b.note).reportMissed
    (missedUpTo b.lastValid b.lastId p.nextId) p.id p.clearTo clearTo
  let u := (t.stepCovering p b.covering clearTo).setPeer (p.afterHorizon b offset)
  let w := u.recomputeHorizon v
  if p.state = .live then w else w.verdictDecision v

/-- The sender's record, made in JOINING where there is none; absent where the table is full (R111,
R112). -/
def State.ensurePeer (s : State) (sender : Nat) : State :=
  match s.peer sender with
  | some _ => s.hear sender
  | none =>
    if s.peersFull then s.setFlag .peerOverflow
    else s.addPeer (newPeer sender none s.nodeTime s.ctl.setup)

/-- A qualified HORIZON (R104, R112). -/
def State.takeHorizonFrame (h : FrameHead) (body : List Byte) (s : State) : State :=
  if s.ctl.mode = .unstrapped then s
  else
    let t := s.ensurePeer h.sender
    if s.ctl.mode.configured then
      match t.ctl.setup, t.peer h.sender with
      | some v, some p => t.fiveSteps v p (parseHorizon body)
      | _, _ => t
    else t

/-- HORIZON_FRAME (R112). -/
def execHorizonFrame (dt : Nat) (frame : RxFrame) (s : State) :
    Host.Outcome State Fault Refusal :=
  event dt (State.receive .horizon frame State.takeHorizonFrame) s

/-! ### VERDICT_FRAME (R169, R170) -/

/-- A qualified VERDICT (R104). -/
def State.takeVerdictFrame (h : FrameHead) (body : List Byte) (s : State) : State :=
  if s.ctl.mode.configured then (s.hear h.sender).hearVerdict (parseVerdict body) else s

/-- VERDICT_FRAME (R170). -/
def execVerdictFrame (dt : Nat) (frame : RxFrame) (s : State) :
    Host.Outcome State Fault Refusal :=
  event dt (State.receive .verdict frame State.takeVerdictFrame) s

/-! ### ANNOUNCE_FRAME (R110, R111) -/

/-- The record an ANNOUNCE leaves of an earlier one (R110). -/
def Peer.afterAnnounce (p : Peer) (face : Nat) : Peer :=
  { p.keepGap with
    face := some face, state := .joining, offset := none, clearTo := none, covering := false
    nextId := none }

/-- An ANNOUNCE of the own strand under a face (R110, R111; log 16). -/
def State.takeAnnounce (s : State) (sender face : Nat) : State :=
  match s.peer sender with
  | none =>
    if s.peersFull then s.setFlag .peerOverflow
    else (s.testFace sender face).addPeer (newPeer sender (some face) s.nodeTime s.ctl.setup)
  | some p =>
    let t := ((s.testFace sender face).handLeavingGap p).setPeer (p.afterAnnounce face)
    if p.state = .live then t.liveChanged else t

/-- A qualified ANNOUNCE (R104, R110). -/
def State.takeAnnounceFrame (h : FrameHead) (body : List Byte) (s : State) : State :=
  if s.ctl.mode = .unstrapped then s
  else if fieldAt body 2 1 = s.ctl.strand then
    (s.hear h.sender).takeAnnounce h.sender (fieldAt body 3 1)
  else s.hear h.sender

/-- ANNOUNCE_FRAME (R110). -/
def execAnnounceFrame (dt : Nat) (frame : RxFrame) (s : State) :
    Host.Outcome State Fault Refusal :=
  event dt (State.receive .announce frame State.takeAnnounceFrame) s

/-! ### SILENCE_TIMER_EXPIRY (R120) -/

/-- A record falls silent (R120). -/
def State.silence (s : State) (p : Peer) : State :=
  let t := (s.handLeavingGap p).setPeer p.silenced
  if p.state = .live then t.liveChanged else t

/-- The silence timer of a peer expires (R120). -/
def State.takeSilence (s : State) (id : Nat) : State :=
  match s.peer id with
  | none => s
  | some p => if dueBy s.nodeTime p.silenceDue then s.silence p else s

/-- SILENCE_TIMER_EXPIRY (R120). -/
def execSilenceTimerExpiry (dt : Nat) (peer : Nat) (s : State) :
    Host.Outcome State Fault Refusal :=
  event dt (State.takeSilence · peer) s

/-! ### HORIZON_TIMER_EXPIRY (R125) -/

/-- The horizon timer expires (R125; log 33). -/
def State.takeHorizonTimer (s : State) : State :=
  match s.hz.timer, s.ctl.setup with
  | some due, some v =>
    if due ≤ s.nodeTime then
      let t := { s with hz := { s.hz with timer := some (due + v.horizonPeriod) } }
      t.handFrame (t.toStrand false .horizon)
    else s
  | _, _ => s

/-- HORIZON_TIMER_EXPIRY (R125). -/
def execHorizonTimerExpiry (dt : Nat) (s : State) : Host.Outcome State Fault Refusal :=
  event dt State.takeHorizonTimer s

end Sys2Proof.Machine
end

