-- ==== Sys2Proof/Machine/Reset.lean ====
section
/-! DEFINITION. Resets (chapter 10): POWER_ON_RESET, PIN_RESET and RESET_END. -/

namespace Sys2Proof.Machine

/-! ### The beginning (R199) -/

/-- The cause of a reset in progress when one of kind `cause` begins; POWER stands (R199). -/
def startedCause (running : Option ResetCause) (cause : ResetCause) : ResetCause :=
  match running with
  | some .power => .power
  | some .pin => cause
  | none => cause

/-- A reset begins: the marker output is OFF, a try is cut off, what was asked of the head is lost
(R199, R40, R107, R187; log 27). -/
def State.beginReset (s : State) (cause : ResetCause) : State :=
  { s with
    resetting := some (startedCause s.resetting cause)
    head := { s.head with line := none, reference := none, probe := none }
    xcvr := { s.xcvr with
      taken := none
      ending := false
      send := if s.xcvr.send = .sending then .waiting else s.xcvr.send }
    hz := { s.hz with inDelivery := none }
    marker := { s.marker with output := .off } }

/-- POWER_ON_RESET (R199). -/
def execPowerOnReset (dt : Nat) (s : State) : Host.Outcome State Fault Refusal :=
  .next ((s.begin dt).beginReset .power)

/-- PIN_RESET (R199). -/
def execPinReset (dt : Nat) (s : State) : Host.Outcome State Fault Refusal :=
  .next ((s.begin dt).beginReset .pin)

/-! ### The end (R188, R190, R199) -/

/-- The digit an ID strap reads (R188). -/
def StrapLevel.digit : StrapLevel → Nat
  | .low => 0 | .floating => 1 | .high => 2

/-- The ID, 0 to 26 (R188). -/
def strapId (p : Straps) : Nat :=
  9 * StrapLevel.digit p.id2 + 3 * StrapLevel.digit p.id1 + StrapLevel.digit p.id0

/-- The strand, 1 to 8 (R188). -/
def strapStrand (p : Straps) : Nat :=
  bitValue p.strand2 2 + bitValue p.strand1 1 + bitValue p.strand0 0 + 1

/-- The face, 0 to 3 (R188). -/
def strapFace (p : Straps) : Nat := bitValue p.face1 1 + bitValue p.face0 0

/-- The mode controller after the straps are read (R188, R190, R199). -/
def strapController (p : Straps) (cause : ResetCause) : Controller :=
  { mode := if strapId p = 0 then .unstrapped else .unconfigured
    nodeId := if strapId p = 0 then none else some (strapId p)
    strand := strapStrand p
    face := strapFace p
    cause := cause
    setup := none
    announceTimer := if strapId p = 0 then none else some Config.announcePeriod
    covering := false }

/-- Every block at its reset values, before the ANNOUNCE: what was read at the pins is read, a pin
reset keeps the diagnostics (R17, R40, R57, R85, R107, R129, R151, R175, R187, R199, R208). The lines
that await the tracer are lost without a note (the model's choice, log 37). -/
def State.resetBlocks (s : State) (p : Straps) (cause : ResetCause) : State :=
  { State.reset with
    pending := s.pending
    freeDraws := s.freeDraws
    pins := s.pins
    ctl := strapController p cause
    travel := { State.reset.travel with
      phase := (s.pins.encA, s.pins.encB)
      strand := if s.pins.strand then .asserted else .clear
      cutLevel := s.pins.cut }
    xcvr := { State.reset.xcvr with queue := [], send := .empty }
    diag := match cause with
      | .power => State.reset.diag
      | .pin => s.diag }

/-- The reset ends and the straps are read (R188, R190, R199). -/
def State.endReset (s : State) (p : Straps) (cause : ResetCause) : State :=
  let t := s.resetBlocks p cause
  if strapId p = 0 then t else t.handFrame t.announce

/-- RESET_END (R199): nothing happens where no reset is in progress (log 3). -/
def execResetEnd (dt : Nat) (straps : Straps) (s : State) : Host.Outcome State Fault Refusal :=
  match s.resetting with
  | none => .next (s.begin dt)
  | some cause => .next (s.endReset straps cause)

end Sys2Proof.Machine
end

