-- ==== Sys2Proof/Machine/Travel.lean ====
section
/-! DEFINITION. The travel unit's commands (chapter 1): ENCODER_TRANSITION, STRAND_RISE, STRAND_FALL,
DROPOUT_TIMER_EXPIRY, GATE_CHANGE and CUT_INPUT_EDGE. -/

namespace Sys2Proof.Machine

/-! ### Lines (R7, R8, R20) -/

/-- A line is requested of the head (R20). -/
def State.requestLine (s : State) (position : Int) : State :=
  let t := s.port (.lineRequest s.head.tag s.blindSet)
  { t with head := { t.head with
      tag := s.head.tag + 1
      line := some { position := position, tag := s.head.tag, blind := s.blindSet
                     requestedAt := s.nodeTime } } }

/-- Does a line fall due? (R7) -/
def State.isLineDue (s : State) (v : Setup) : Bool :=
  s.ctl.mode == .inspecting && s.travel.strand == .asserted && s.travel.gate == .opened
    && s.travel.lastLine + v.linePitch ≤ s.travel.position

/-- The test for a due line, with the request or the overrun it leads to (R7, R8). -/
def State.lineDue (s : State) (v : Setup) : State :=
  if s.isLineDue v then
    let due := floorTo v.linePitch s.travel.position
    let t := { s with travel := { s.travel with lastLine := due } }
    if s.head.line.isNone then t.requestLine due
    else (t.count .lineOverrun).noteLine v due
  else s

/-- The own clear-to is recomputed where the high-water or the last line position has moved since
`old` (R81; log 12). -/
def State.recomputeIfMoved (s old : State) : State :=
  if s.travel.highWater = old.travel.highWater ∧ s.travel.lastLine = old.travel.lastLine then s
  else s.recompute

/-! ### ENCODER_TRANSITION (R2 to R9) -/

/-- What a change of the encoder pair is. -/
inductive Turn
  | still | illegal | forward | reverse
  deriving DecidableEq, Repr

/-- The pair one step forward: 00, 01, 11, 10 and back (R2). -/
def nextPhase (p : Bool × Bool) : Bool × Bool := (p.2, !p.1)

/-- The turn from one pair to another (R2, R3). -/
def turnOf (old new : Bool × Bool) : Turn :=
  if new = old then .still
  else if new = nextPhase old then .forward
  else if old = nextPhase new then .reverse
  else .illegal

/-- The position of a count (R4), by its formula, which gives -10 for a count of -1 at 1000 counts per
metre where R4 says -1 (log 34). -/
def positionOf (setup : Option Setup) (count : Int) : Int :=
  match setup with
  | none => 0
  | some v => holdPosition (count * 10000 / (v.countsPerMetre : Int))

/-- The high-water and the last line position after the position has changed (R5, R6). -/
def State.raiseHighWater (s : State) (v : Setup) : State :=
  if s.travel.highWater < s.travel.position then
    { s with travel := { s.travel with
        highWater := s.travel.position
        lastLine := if s.ctl.mode = .inspecting ∧ s.travel.gate = .shut then
            floorTo v.linePitch s.travel.position
          else s.travel.lastLine } }
  else s

/-- What follows a changed position in the travel unit (R2). -/
def State.positionChanged (s : State) : State :=
  match s.ctl.setup with
  | none => s
  | some v => (s.raiseHighWater v).lineDue v

/-- The count moves by `by`; position, high-water, line timing and marker follow (R2; log 12). -/
def State.moveCount (s : State) (dir : Direction) (step : Int) : State :=
  let count := hold (-Config.countMax - 1) Config.countMax (s.travel.count + step)
  if count = s.travel.count then s
  else
    let position := positionOf s.ctl.setup count
    let t := { s with travel := { s.travel with count := count, position := position } }
    let u := if position = s.travel.position then t else t.positionChanged
    (u.markMove dir s.travel.position).recomputeIfMoved s

/-- The travel unit takes the encoder pair (R2, R3). -/
def State.takePair (s : State) (a b : Bool) : State :=
  let t := { s with travel := { s.travel with phase := (a, b) } }
  match turnOf s.travel.phase (a, b) with
  | .still => s
  | .illegal => (t.setFlag .encoder).count .encFault
  | .forward => t.moveCount .forward 1
  | .reverse => t.moveCount .reverse (-1)

/-- ENCODER_TRANSITION (R2). -/
def execEncoderTransition (dt : Nat) (a b : Bool) (s : State) :
    Host.Outcome State Fault Refusal :=
  inputEvent dt (fun p => { p with encA := a, encB := b }) (State.takePair · a b) s

/-! ### Strand-present (R10, R11) -/

/-- The raw strand-present rises (R10). -/
def State.takeRise (s : State) : State :=
  match s.travel.strand with
  | .asserted => { s with travel := { s.travel with dropout := none } }
  | .clear =>
    let t := { s with travel := { s.travel with strand := .asserted } }
    match s.ctl.setup with
    | none => t
    | some v => if s.ctl.mode = .waiting then t.enterInspecting v else t

/-- STRAND_RISE (R10). -/
def execStrandRise (dt : Nat) (s : State) : Host.Outcome State Fault Refusal :=
  inputEvent dt (fun p => { p with strand := true })
    (if s.pins.strand then id else State.takeRise) s

/-- The raw strand-present falls (R11). -/
def State.takeFall (s : State) : State :=
  match s.travel.strand with
  | .clear => s
  | .asserted =>
    match s.ctl.setup with
    | none => { s with travel := { s.travel with strand := .clear } }
    | some v => { s with travel := { s.travel with
        dropout := some (s.nodeTime + v.dropoutTime) } }

/-- STRAND_FALL (R11). -/
def execStrandFall (dt : Nat) (s : State) : Host.Outcome State Fault Refusal :=
  inputEvent dt (fun p => { p with strand := false })
    (if s.pins.strand then State.takeFall else id) s

/-- The dropout timer expires with the raw input low (R11). -/
def State.takeDropout (s : State) : State :=
  if dueBy s.nodeTime s.travel.dropout ∧ s.pins.strand = false then
    let t := { s with travel := { s.travel with strand := .clear, dropout := none } }
    match s.ctl.setup with
    | none => t
    | some v => if s.ctl.mode = .inspecting then t.strandEnd v else t
  else s

/-- DROPOUT_TIMER_EXPIRY (R11, R195). -/
def execDropoutTimerExpiry (dt : Nat) (s : State) : Host.Outcome State Fault Refusal :=
  event dt State.takeDropout s

/-! ### The spray gate (R12) -/

/-- The gate state an input level gives (R12). -/
def gateOf (setup : Option Setup) (high : Bool) : GateState :=
  match setup with
  | none => .opened
  | some v => if v.gateUsed && high then .shut else .opened

/-- The travel unit takes a level of the gate input (R12). -/
def State.takeGate (s : State) (high : Bool) : State :=
  let gate := gateOf s.ctl.setup high
  if gate = s.travel.gate then s
  else
    let t := { s with travel := { s.travel with gate := gate } }
    match s.ctl.setup with
    | none => t
    | some v =>
      if s.ctl.mode = .inspecting then ((t.lineDue v).coveringTest v).recomputeIfMoved s else t

/-- GATE_CHANGE (R12). -/
def execGateChange (dt : Nat) (high : Bool) (s : State) : Host.Outcome State Fault Refusal :=
  inputEvent dt (fun p => { p with gate := high }) (State.takeGate · high) s

/-! ### The cut input (R13 to R16) -/

/-- The number the next own cut takes; absent at the end of the numbers (R15). -/
def nextCutNumber (first : Nat) : Option Nat → Option Nat
  | none => some first
  | some k => if k < Config.cutMax then some (k + 1) else none

/-- A cut candidate at a cut position (R14 to R16). -/
def State.takeCandidate (s : State) (v : Setup) (position : Int) : State :=
  if s.travel.lastCut.any fun last => distance position last < v.minCutSpacing then
    s.count .cutBounce
  else
    match nextCutNumber v.firstCut s.travel.cutCounter with
    | none => s.setFlag .cutConflict
    | some k =>
      let t := { s with travel := { s.travel with
        cutCounter := some k, lastCut := some position } }
      (t.handFrame (t.toStrand false (.cut k position))).takeCut v false k position

/-- The position of a cut made now (R14). -/
def State.cutPosition (s : State) (v : Setup) : Int :=
  max (-Config.posMax - 1) (s.travel.position - v.torchOffset)

/-- The travel unit takes a level of the cut input (R13). -/
def State.takeCutLevel (s : State) (high : Bool) : State :=
  let t := { s with travel := { s.travel with cutLevel := high } }
  match s.ctl.setup with
  | none => t
  | some v =>
    if high && !s.travel.cutLevel && v.cutReporting then t.takeCandidate v (t.cutPosition v)
    else t

/-- CUT_INPUT_EDGE (R13). -/
def execCutInputEdge (dt : Nat) (high : Bool) (s : State) : Host.Outcome State Fault Refusal :=
  inputEvent dt (fun p => { p with cut := high }) (State.takeCutLevel · high) s

end Sys2Proof.Machine
end

