-- ==== Sys2Proof/Machine/Station.lean ====
section
/-! DEFINITION. Frames from plant stations and the mode controller's timer (chapters 10, 11 and 3):
SETUP_FRAME, BUILD_FRAME, STATUS_REQ_FRAME, STATUS_FRAME, FRAME_OF_UNDEFINED_CLASS and
ANNOUNCE_TIMER_EXPIRY. -/

namespace Sys2Proof.Machine

/-! ### SETUP_FRAME (R191, R192) -/

/-- The travel unit takes up the setup (R4, R5, R11, R12, R17). -/
def State.setupTravel (s : State) (v : Setup) : State :=
  let position := positionOf (some v) s.travel.count
  { s with travel := { s.travel with
      position := position
      highWater := max s.travel.highWater position
      strand := if s.pins.strand then .asserted else .clear
      dropout := none
      gate := gateOf (some v) s.pins.gate
      cutCounter := none
      lastCut := none } }

/-- A record whose silence timer starts at the acceptance; one not heard for that long becomes SILENT
at once (R109; log 17). -/
def Peer.startSilence (now timeout : Nat) (p : Peer) : Peer :=
  if p.lastHeard + timeout ≤ now then p.silenced
  else { p with silenceDue := some (p.lastHeard + timeout) }

/-- The timers and optional values of the other blocks at the acceptance (R29, R40, R57, R109, R125,
R129, R187). -/
def State.setupBlocks (s : State) (v : Setup) : State :=
  { s with
    head := { s.head with line := none, probe := none, probeTimer := none }
    sched := { s.sched with tickTimer := some (s.nodeTime + tickPeriod v) }
    corr := s.corr.endBuild s.corr.build
    hz := { s.hz with
      peers := s.hz.peers.map (Peer.startSilence s.nodeTime v.silenceTimeout)
      lastSent := none
      timer := some (s.nodeTime + v.horizonPeriod) }
    marker := { s.marker with active := none, output := .off } }

/-- Own clear-to, strand horizon and record floor, in that order, then the own GAP (R192, R121, R171). -/
def State.setupHorizon (s : State) (v : Setup) : State :=
  let t := { s with hz := { s.hz with ownClearTo := s.newClearTo v } }.recomputeHorizon v
  { t with billet := { t.billet with floor := some t.hz.horizon } }.openOwnGap v

/-- SETUP is accepted (R191, R192). -/
def State.acceptSetup (s : State) (v : Setup) : State :=
  let t := { s with ctl := { s.ctl with
    setup := some v, mode := .referencing, announceTimer := none, covering := false } }
  let u := ((t.setupTravel v).setupBlocks v).setupHorizon v
  (u.handFrame u.announce).startAll

/-- A qualified SETUP (R102, R104). -/
def State.takeSetupFrame (_ : FrameHead) (body : List Byte) (s : State) : State :=
  s.acceptSetup (parseSetup body)

/-- SETUP_FRAME (R191). -/
def execSetupFrame (dt : Nat) (frame : RxFrame) (s : State) : Host.Outcome State Fault Refusal :=
  event dt (State.receive .setup frame State.takeSetupFrame) s

/-! ### BUILD_FRAME (R51) -/

/-- A qualified BUILD (R51). -/
def State.takeBuildFrame (_ : FrameHead) (body : List Byte) (s : State) : State :=
  s.acceptBuild (fieldAt body 0 1)

/-- BUILD_FRAME (R51). -/
def execBuildFrame (dt : Nat) (frame : RxFrame) (s : State) : Host.Outcome State Fault Refusal :=
  event dt (State.receive .build frame State.takeBuildFrame) s

/-! ### STATUS_REQ_FRAME (R202, R203) -/

/-- The number whose bits are the flags, bit i from element i (R203). -/
def flagWord (flags : List Bool) : Nat :=
  flags.foldr (fun b acc => bitValue b 0 + 2 * acc) 0

/-- The segment states, two bits each, segment 0 lowest (R203). -/
def segmentWord (segs : List Segment) : Nat :=
  segs.foldr (fun g acc => g.state.code + 4 * acc) 0

/-- The 60 bytes of a STATUS body (R203). -/
def State.statusBytes (s : State) : List Byte :=
  [byteOf (s.ctl.mode.code + bitValue s.sched.allRunning 3 + s.sched.ticks * 16)]
    ++ bytesBE 2 (flagWord s.diag.flags.toList)
    ++ bytesBE 2 (segmentWord s.sched.segs)
    ++ [s.staleSet, byteOf (s.tracer.slots.countP Option.isSome),
        byteOf s.record.pending.length]
    ++ bytesBE 2 s.record.entries.length
    ++ [byteOf s.billet.billets.length, byteOf s.corr.build.code]
    ++ (s.diag.counters.toList.map (bytesBE 2)).flatten

/-- The STATUS reply to a station (R202). -/
def State.statusFrame (s : State) (station : Nat) : TxFrame :=
  { address := .individual, target := station, test := false, body := .status s.statusBytes }

/-- A qualified STATUS-REQ (R202). -/
def State.takeStatusReqFrame (h : FrameHead) (body : List Byte) (s : State) : State :=
  if s.ctl.mode = .unstrapped then s
  else
    let t := s.handFrame (s.statusFrame h.sender)
    if fieldAt body 0 1 = 1 ∧ s.queueFull = false then t.clearFlags else t

/-- STATUS_REQ_FRAME (R202). -/
def execStatusReqFrame (dt : Nat) (frame : RxFrame) (s : State) :
    Host.Outcome State Fault Refusal :=
  event dt (State.receive .statusReq frame State.takeStatusReqFrame) s

/-! ### STATUS_FRAME, FRAME_OF_UNDEFINED_CLASS -/

/-- A qualified STATUS is discarded (R104). -/
def State.discardFrame (_ : FrameHead) (_ : List Byte) (s : State) : State := s

/-- STATUS_FRAME (R104). -/
def execStatusFrame (dt : Nat) (frame : RxFrame) (s : State) : Host.Outcome State Fault Refusal :=
  event dt (State.receive .status frame State.discardFrame) s

/-- FRAME_OF_UNDEFINED_CLASS (R97, R101): none passes FORM. -/
def execFrameOfUndefinedClass (dt : Nat) (frame : RxFrame) (s : State) :
    Host.Outcome State Fault Refusal :=
  event dt (State.receive .undefined frame State.discardFrame) s

/-! ### ANNOUNCE_TIMER_EXPIRY (R190) -/

/-- The announce timer expires (R190; log 33). -/
def State.takeAnnounceTimer (s : State) : State :=
  match s.ctl.announceTimer with
  | none => s
  | some due =>
    if due ≤ s.nodeTime then
      let t := { s with ctl := { s.ctl with
        announceTimer := some (due + Config.announcePeriod) } }
      if t.xcvr.queue.any TxFrame.isAnnounce then t else t.handFrame t.announce
    else s

/-- ANNOUNCE_TIMER_EXPIRY (R190). -/
def execAnnounceTimerExpiry (dt : Nat) (s : State) : Host.Outcome State Fault Refusal :=
  event dt State.takeAnnounceTimer s

end Sys2Proof.Machine
end

