-- ==== Sys2Proof/Machine/Dispatch.lean ====
section
/-! DEFINITION. The meaning of each command, one arm for each constructor. -/

namespace Sys2Proof.Machine

def exec (i : Instr) (s : State) : Host.Outcome State Fault Refusal :=
  match i with
  | .encoderTransition dt a b => Sys2Proof.Machine.execEncoderTransition dt a b s
  | .strandRise dt => Sys2Proof.Machine.execStrandRise dt s
  | .strandFall dt => Sys2Proof.Machine.execStrandFall dt s
  | .dropoutTimerExpiry dt => Sys2Proof.Machine.execDropoutTimerExpiry dt s
  | .gateChange dt high => Sys2Proof.Machine.execGateChange dt high s
  | .cutInputEdge dt high => Sys2Proof.Machine.execCutInputEdge dt high s
  | .lineArrival dt tag raw withheld => Sys2Proof.Machine.execLineArrival dt tag raw withheld s
  | .lineTimeout dt => Sys2Proof.Machine.execLineTimeout dt s
  | .referenceReadout dt tag raw => Sys2Proof.Machine.execReferenceReadout dt tag raw s
  | .readoutTimeout dt => Sys2Proof.Machine.execReadoutTimeout dt s
  | .probeTimerExpiry dt => Sys2Proof.Machine.execProbeTimerExpiry dt s
  | .probeTimeout dt => Sys2Proof.Machine.execProbeTimeout dt s
  | .probeArrival dt tag raw withheld => Sys2Proof.Machine.execProbeArrival dt tag raw withheld s
  | .tick dt => Sys2Proof.Machine.execTick dt s
  | .processedLine dt => Sys2Proof.Machine.execProcessedLine dt s
  | .transmitTry dt => Sys2Proof.Machine.execTransmitTry dt s
  | .arbitrationLost dt => Sys2Proof.Machine.execArbitrationLost dt s
  | .collision dt => Sys2Proof.Machine.execCollision dt s
  | .frameSentWhole dt => Sys2Proof.Machine.execFrameSentWhole dt s
  | .cutFrame dt frame => Sys2Proof.Machine.execCutFrame dt frame s
  | .findingFrame dt frame => Sys2Proof.Machine.execFindingFrame dt frame s
  | .horizonFrame dt frame => Sys2Proof.Machine.execHorizonFrame dt frame s
  | .verdictFrame dt frame => Sys2Proof.Machine.execVerdictFrame dt frame s
  | .announceFrame dt frame => Sys2Proof.Machine.execAnnounceFrame dt frame s
  | .statusFrame dt frame => Sys2Proof.Machine.execStatusFrame dt frame s
  | .setupFrame dt frame => Sys2Proof.Machine.execSetupFrame dt frame s
  | .buildFrame dt frame => Sys2Proof.Machine.execBuildFrame dt frame s
  | .statusReqFrame dt frame => Sys2Proof.Machine.execStatusReqFrame dt frame s
  | .silenceTimerExpiry dt peer => Sys2Proof.Machine.execSilenceTimerExpiry dt peer s
  | .horizonTimerExpiry dt => Sys2Proof.Machine.execHorizonTimerExpiry dt s
  | .announceTimerExpiry dt => Sys2Proof.Machine.execAnnounceTimerExpiry dt s
  | .powerOnReset dt => Sys2Proof.Machine.execPowerOnReset dt s
  | .pinReset dt => Sys2Proof.Machine.execPinReset dt s
  | .resetEnd dt straps => Sys2Proof.Machine.execResetEnd dt straps s
  | .newFrameBegins dt => Sys2Proof.Machine.execNewFrameBegins dt s
  | .idleGapAfterReset dt => Sys2Proof.Machine.execIdleGapAfterReset dt s
  | .frameOfUndefinedClass dt frame => Sys2Proof.Machine.execFrameOfUndefinedClass dt frame s

end Sys2Proof.Machine
end

