-- ==== Sys2Proof/Safety.lean ====
section
/-! DEFINITION. What holds in every state a run reaches: the laws the manual states of the blocks, each
as an invariant that the provers show every step keeps. -/

namespace Sys2Proof.Machine

/-- The limits of the lists, tables and counts (R29, R22, R59, R88, R92, R95, R111, R123, R134, R137,
R152, R178, R182). -/
def CapacityInv (s : State) : Prop :=
  s.xcvr.queue.length ≤ 16 ∧ s.xcvr.queue.countP TxFrame.isHorizon ≤ 1 ∧ s.xcvr.collisions ≤ 2
    ∧ s.xcvr.buffer.length ≤ 68 ∧ s.hz.notes.length ≤ 8 ∧ s.hz.peers.length ≤ 8
    ∧ s.record.pending.length ≤ 64 ∧ s.record.entries.length ≤ 256
    ∧ s.billet.billets.length ≤ 16 ∧ s.marker.queue.length ≤ 32 ∧ s.marker.history.length ≤ 4
    ∧ s.tracer.slots.length = 32 ∧ s.sched.segs.length = 8 ∧ s.sched.ticks ≤ 8
    ∧ s.head.timeouts ≤ 16

/-- A list in the order of R131. -/
def InOrder (entries : List Entry) : Prop := entries.Pairwise fun a b => b.before a = false

/-- Both lists of the record unit are in the order of R131, the pending ones at or above the strand
horizon and the committed ones below it (R134, R137, R141). -/
def RecordInv (s : State) : Prop :=
  InOrder s.record.pending ∧ InOrder s.record.entries
    ∧ (∀ e ∈ s.record.pending, s.hz.horizon ≤ e.start)
    ∧ (∀ e ∈ s.record.entries, e.start < s.hz.horizon)
    ∧ ∀ r ∈ s.record.overflow, s.hz.horizon ≤ r.1

/-- The strand horizon never exceeds the own clear-to (R122). -/
def HorizonInv (s : State) : Prop := s.hz.horizon ≤ s.hz.ownClearTo

/-- The send state, the queue, the taken copy, the line and the note in delivery agree: a note is in
delivery only while a HORIZON frame is being tried (R89, R90, R95, R124). -/
def SendInv (s : State) : Prop :=
  (s.xcvr.send = .empty ↔ s.xcvr.queue = []) ∧ (s.xcvr.taken.isSome ↔ s.xcvr.send = .sending)
    ∧ (s.xcvr.send = .sending → s.xcvr.line = .busy ∧ s.xcvr.firstGap = false)
    ∧ (s.xcvr.firstGap = true → s.xcvr.line = .busy)
    ∧ (s.xcvr.ending = true → s.xcvr.send = .sending)
    ∧ (s.xcvr.queue.any TxFrame.isHorizon = true → s.ctl.setup.isSome = true)
    ∧ ∀ n ∈ s.hz.inDelivery, s.xcvr.send = .sending ∧ s.hz.notes.head? = some n
        ∧ s.xcvr.queue.head?.any TxFrame.isHorizon = true

/-- Setup, mode, covering and the own GAP agree (R121, R191, R197). -/
def CoveringInv (s : State) : Prop :=
  s.ctl.setup.isSome = s.ctl.mode.configured
    ∧ (s.ctl.mode = .inspecting → s.travel.strand = .asserted)
    ∧ s.ctl.covering = s.isCovering
    ∧ s.hz.ownGap.isSome = (s.ctl.mode.configured && !s.ctl.covering)

/-- Count, position, high-water and last line position (R2, R4, R5, R6). -/
def TravelInv (s : State) : Prop :=
  -Config.countMax - 1 ≤ s.travel.count ∧ s.travel.count ≤ Config.countMax
    ∧ s.travel.position = positionOf s.ctl.setup s.travel.count
    ∧ match s.ctl.setup with
  | none => s.travel.position = 0 ∧ s.travel.highWater = 0 ∧ s.travel.lastLine = 0
  | some v => 1 ≤ v.linePitch ∧ 0 ≤ s.travel.highWater
      ∧ s.travel.position ≤ s.travel.highWater ∧ s.travel.lastLine ≤ s.travel.highWater
      ∧ (v.linePitch : Int) ∣ s.travel.lastLine

/-- A line is in flight only in INSPECTING, a probe and its timer stand only in HEAD-FAULT, and no
reference is outstanding there (R7, R23, R26, R27). -/
def PortInv (s : State) : Prop :=
  (s.head.line.isSome = true → s.ctl.mode = .inspecting)
    ∧ (s.head.probe.isSome = true → s.ctl.mode = .headFault)
    ∧ (s.head.probeTimer.isSome = true → s.ctl.mode = .headFault)
    ∧ (s.head.reference.isSome = true → s.ctl.mode ≠ .headFault)

/-- Every counter stays within 65535 (R201). -/
def CounterInv (s : State) : Prop := ∀ c : Counter, s.counter c ≤ 65535

/-- The gain table stays within 256 to 4095 (R53). -/
def GainInv (s : State) : Prop := ∀ g ∈ s.corr.gain, 256 ≤ g ∧ g ≤ 4095

/-- The tables and the build hold a value for each of the 2048 columns, the accumulators one for each
pixel of the reference outstanding, and a BUSY build is short of its target (R33, R51 to R53). -/
def CorrectorInv (s : State) : Prop :=
  s.corr.dark.length = 2048 ∧ s.corr.gain.length = 2048 ∧ s.corr.sums.length = 2048
    ∧ s.corr.samples.length = 2048
    ∧ (∀ r ∈ s.head.reference,
        s.sched.accum.length = match r.scope with | .all => 2048 | .segment _ => 256)
    ∧ (s.corr.build = .busy →
        s.ctl.mode = .inspecting ∧ ∃ g ∈ s.corr.target, s.corr.lines < g)

/-- The law of the billet table, and which billets have a tail (R152). -/
def BilletInv (s : State) : Prop :=
  (∀ v ∈ s.ctl.setup, 1 ≤ v.cutTolerance)
    ∧ s.billet.billets.Pairwise (fun a b => a.head < b.head ∧ a.number < b.number)
    ∧ (∀ b ∈ s.billet.billets.dropLast, b.tail.isSome = true)
    ∧ ∀ b ∈ s.billet.billets.getLast?, b.tail = none

/-- The law of the blind segment, and how it hangs on the reference outstanding (R28, R35). During a
reset nothing is outstanding. -/
def BlindInv (s : State) : Prop :=
  s.sched.segs.length = 8 ∧ (s.resetting = none →
    (∀ i j, (s.seg i).state ≠ .current → (s.seg j).state ≠ .current → i = j)
    ∧ (s.sched.allRunning = true ↔ s.head.reference.map Reference.scope = some .all)
    ∧ (s.sched.allRunning = true → s.ctl.mode = .referencing)
    ∧ ∀ i, (s.seg i).state = .blind ↔ s.head.reference.map Reference.scope = some (.segment i))

/-- Setup, mode, covering, own GAP, sensor port and blind segment together: none of the three holds on
without the others. -/
def ModesInv (s : State) : Prop := CoveringInv s ∧ PortInv s ∧ BlindInv s

/-- The marker output is ON only under an active mark; marks are stretches, those waiting in the order
of their starts (section 9.1). -/
def MarkerInv (s : State) : Prop :=
  (s.marker.output = .on → s.marker.active.isSome = true)
    ∧ (∀ m ∈ s.marker.queue, m.start ≤ m.stop) ∧ (∀ m ∈ s.marker.active, m.start ≤ m.stop)
    ∧ s.marker.queue.Pairwise fun a b => a.start ≤ b.start

/-- The law of the trace table: no open trace has gone more than gap-lines lines without extension, and
none has reached the lines at which it splits (R70, R71). Last spans and the runs still to come are
stretches of columns (R47, R59). -/
def TraceInv (s : State) : Prop :=
  (∀ line ∈ s.tracer.awaiting, ∀ r ∈ line.runs, r.lo ≤ r.hi ∧ r.hi < 2048)
    ∧ match s.ctl.setup with
  | none => ∀ slot ∈ s.tracer.slots, slot = none
  | some v => ∀ slot ∈ s.tracer.slots, ∀ t ∈ slot, t.idle ≤ v.gapLines ∧ t.lines ≤ 4095
      ∧ t.spanLo ≤ t.spanHi ∧ t.spanHi < 2048

/-! ### What the statements speak of -/

/-- One step along the forward sequence 00, 01, 11, 10 (R2). -/
def forwardSteps : List ((Bool × Bool) × (Bool × Bool)) :=
  [((false, false), (false, true)), ((false, true), (true, true)),
   ((true, true), (true, false)), ((true, false), (false, false))]

/-- The commands of R199 that begin or end a reset. -/
def ofReset : Instr → Bool
  | .powerOnReset _ => true
  | .pinReset _ => true
  | .resetEnd _ _ => true
  | _ => false

/-- The input levels a command leaves. -/
def levelsAfter (c : Instr) (p : Pins) : Pins :=
  match c with
  | .encoderTransition _ a b => { p with encA := a, encB := b }
  | .strandRise _ => { p with strand := true }
  | .strandFall _ => { p with strand := false }
  | .gateChange _ high => { p with gate := high }
  | .cutInputEdge _ high => { p with cut := high }
  | _ => p

/-- The next command ends a reset in progress: the one step that may lower what else only rises. -/
def State.endsReset (s : State) : Bool :=
  s.resetting.isSome && match s.pending with
    | .resetEnd _ _ :: _ => true
    | _ => false

/-- The state in which a frame that has passed every check is handed on: the line IDLE, but where an own
try was taken first at its idle gap, and the buffer empty (R95, R106). -/
def State.frameOver (s : State) (dt : Nat) : State :=
  { s.begin dt with xcvr := { s.xcvr with
      line := if s.xcvr.send = .sending then .busy else .idle, ending := false
      buffer := [], beyond := 0, broken := false } }

/-- The command that ends a frame of a class. -/
def FrameClass.command (c : FrameClass) (dt : Nat) (f : RxFrame) : Instr :=
  match c with
  | .cut => .cutFrame dt f
  | .finding => .findingFrame dt f
  | .horizon => .horizonFrame dt f
  | .verdict => .verdictFrame dt f
  | .announce => .announceFrame dt f
  | .status => .statusFrame dt f
  | .setup => .setupFrame dt f
  | .build => .buildFrame dt f
  | .statusReq => .statusReqFrame dt f
  | .undefined => .frameOfUndefinedClass dt f

/-- The node hears the end of a frame: no reset is in progress, the first idle gap has passed, and no own
try, but one that was taken first at the idle gap that ends the frame (R95, R106). -/
def Hearing (s : State) : Prop :=
  s.resetting = none ∧ s.xcvr.firstGap = false ∧ (s.xcvr.send = .sending → s.xcvr.ending = true)

/-- A frame of class `c` ends and passes every check with this head and body (R97 to R102). -/
def Passes (s : State) (c : FrameClass) (f : RxFrame) (h : FrameHead) (body : List Byte) : Prop :=
  Hearing s ∧ (s.load f).qualify c = .passed h body

end Sys2Proof.Machine
end

