-- ==== Sys2Proof/Certificates/Slice0/Obligations.lean ====
section
/-! DEFINITION. The statements for the provers, in the order of OBLIGATIONS.json. A statement about one
command gives the state it answers: `t = { … with x := t.x, … }` names what may change, and everything
it does not name is unchanged. -/

open Sys2Proof Sys2Proof.Machine

/-! ### The machine -/

/-- The command at the front of the queue runs on the state with the queue's rest; an empty queue idles
(the model's choice, log 2). -/
def Obligations.StepRunsTheFrontCommand : Prop :=
  (∀ (c : Instr) (rest : List Instr) (s : State),
    step { s with pending := c :: rest } = exec c { s with pending := rest })
  ∧ ∀ s : State, s.pending = [] → step s = .next s

/-- No command stops the node, and none touches the queue. -/
def Obligations.EveryCommandAnswersANextState : Prop :=
  ∀ (c : Instr) (s : State), ∃ t, exec c s = .next t ∧ t.pending = s.pending

/-- During a reset a command leaves the input levels and the node time, and nothing else (the levels
followed: log 4). -/
def Obligations.OnlyInputLevelsFollowDuringAReset : Prop :=
  ∀ (c : Instr) (s : State), s.resetting.isSome = true → ofReset c = false →
    ∃ n, exec c s = .next { s with
        nodeTime := n, head := { s.head with sent := [] }, pins := levelsAfter c s.pins }
      ∧ n ≤ 2 ^ 48 - 1 ∧ (s.nodeTime ≤ 2 ^ 48 - 1 → s.nodeTime ≤ n)

/-- What a power-on reset leaves (the straps and levels: log 5), and that it meets every invariant. -/
def Obligations.ResetLeavesTheNodeReady : Prop :=
  State.reset.nodeTime = 0 ∧ State.reset.travel.count = 0 ∧ State.reset.travel.position = 0
    ∧ State.reset.travel.highWater = 0 ∧ State.reset.travel.lastLine = 0
    ∧ State.reset.ctl.setup = none ∧ State.reset.ctl.mode = .unconfigured
    ∧ State.reset.head.tag = 0 ∧ State.reset.head.timeouts = 0
    ∧ (∀ i, State.reset.seg i = {}) ∧ State.reset.sched.pointer = 0
    ∧ State.reset.corr.dark = List.replicate 2048 0
    ∧ State.reset.corr.gain = List.replicate 2048 1024
    ∧ State.reset.tracer.slots = List.replicate 32 none ∧ State.reset.tracer.nextId = 0
    ∧ State.reset.hz.peers = [] ∧ State.reset.hz.ownClearTo = 0 ∧ State.reset.hz.horizon = 0
    ∧ State.reset.record.pending = [] ∧ State.reset.record.entries = []
    ∧ State.reset.billet.billets = [] ∧ State.reset.marker.output = .off
    ∧ (∀ f, State.reset.flag f = false) ∧ (∀ c, State.reset.counter c = 0)
    ∧ State.reset.xcvr.queue = [toAll false (.announce 1 1 0 .power .unconfigured)]
    ∧ CapacityInv State.reset ∧ RecordInv State.reset ∧ HorizonInv State.reset
    ∧ SendInv State.reset ∧ ModesInv State.reset
    ∧ TravelInv State.reset ∧ CounterInv State.reset ∧ GainInv State.reset
    ∧ CorrectorInv State.reset
    ∧ BilletInv State.reset ∧ MarkerInv State.reset ∧ TraceInv State.reset

/-! ### Travel -/

/-- The position is the floor of the count times 10000 by the counts per metre, held within 32 bits (so
by R4's formula; its remark on a count of -1 is log 34); a line position is the largest multiple of the
pitch at or below. -/
def Obligations.PositionsAreRoundedDown : Prop :=
  (∀ (v : Setup) (count q : Int), 1 ≤ v.countsPerMetre →
    q * v.countsPerMetre ≤ count * 10000 → count * 10000 < (q + 1) * v.countsPerMetre →
    positionOf (some v) count = max (-(2 ^ 31)) (min (2 ^ 31 - 1) q))
  ∧ (∀ count, positionOf none count = 0)
  ∧ ∀ (pitch : Nat) (p : Int), 1 ≤ pitch →
      (pitch : Int) ∣ floorTo pitch p ∧ floorTo pitch p ≤ p ∧ p < floorTo pitch p + pitch

/-- A legal encoder step moves the count by one, and position, high-water and direction follow; a pair
equal to the phase changes the levels alone (the model's choice, log 3), and one in which both channels
differ is an illegal transition. -/
def Obligations.EncoderStepsMoveTheCount : Prop :=
  (∀ (dt : Nat) (a b : Bool) (d : Int) (s : State), s.resetting = none → TravelInv s →
    (d = 1 ∧ (s.travel.phase, (a, b)) ∈ forwardSteps
      ∨ d = -1 ∧ ((a, b), s.travel.phase) ∈ forwardSteps) →
    ∃ t, exec (.encoderTransition dt a b) s = .next t
      ∧ t = { s.begin dt with
          pins := { s.pins with encA := a, encB := b }
          travel := t.travel
          head := { s.head with tag := t.head.tag, line := t.head.line, sent := t.head.sent }
          xcvr := { s.xcvr with queue := t.xcvr.queue, send := t.xcvr.send }
          hz := { s.hz with ownClearTo := t.hz.ownClearTo, horizon := t.hz.horizon
                            notes := t.hz.notes }
          record := t.record, billet := t.billet, marker := t.marker, diag := t.diag }
      ∧ t.travel = { s.travel with
          phase := (a, b)
          count := max (-(2 ^ 47)) (min (2 ^ 47 - 1) (s.travel.count + d))
          position := positionOf s.ctl.setup t.travel.count
          highWater := max s.travel.highWater t.travel.position
          lastLine := t.travel.lastLine }
      ∧ s.travel.lastLine ≤ t.travel.lastLine
      ∧ (t.travel.count ≠ s.travel.count →
          t.marker.direction = if d = 1 then .forward else .reverse))
  ∧ ∀ (dt : Nat) (a b : Bool) (s : State), s.resetting = none →
    (s.travel.phase = (a, b) → exec (.encoderTransition dt a b) s
      = .next { s.begin dt with pins := { s.pins with encA := a, encB := b } })
    ∧ (a ≠ s.travel.phase.1 → b ≠ s.travel.phase.2 → exec (.encoderTransition dt a b) s
      = .next (({ s.begin dt with
          pins := { s.pins with encA := a, encB := b }
          travel := { s.travel with phase := (a, b) } }.setFlag .encoder).count .encFault))

/-- The line a forward transition makes due in INSPECTING: requested, overrun, not yet due, or followed
by the frontier while the gate is SHUT. -/
def Obligations.ForwardTransitionsMakeLinesDue : Prop :=
  ∀ (dt : Nat) (a b : Bool) (s : State) (v : Setup) (p : Int), s.resetting = none → TravelInv s →
    s.ctl.setup = some v → (s.travel.phase, (a, b)) ∈ forwardSteps →
    s.travel.count < 2 ^ 47 - 1 → p = positionOf (some v) (s.travel.count + 1) →
    p ≠ s.travel.position → s.ctl.mode = .inspecting → s.travel.strand = .asserted →
    ∃ t, exec (.encoderTransition dt a b) s = .next t ∧ t.travel.position = p
      ∧ (s.travel.gate = .opened → s.travel.lastLine + v.linePitch ≤ p → s.head.line = none →
          t.travel.lastLine = floorTo v.linePitch p ∧ t.hz.notes = s.hz.notes
          ∧ t.head = { s.head with
              tag := s.head.tag + 1
              line := some { position := floorTo v.linePitch p, tag := s.head.tag
                             blind := s.blindSet, requestedAt := (s.begin dt).nodeTime }
              sent := [.lineRequest s.head.tag s.blindSet] })
      ∧ (s.travel.gate = .opened → s.travel.lastLine + v.linePitch ≤ p → s.head.line ≠ none →
          t.travel.lastLine = floorTo v.linePitch p ∧ t.head = { s.head with sent := [] }
          ∧ t.hz.notes = mergeRange v.linePitch s.hz.inDelivery.isSome s.hz.notes
              (floorTo v.linePitch p) (floorTo v.linePitch p)
          ∧ t.counter .lineOverrun = min 65535 (s.counter .lineOverrun + 1))
      ∧ (s.travel.gate = .opened → p < s.travel.lastLine + v.linePitch →
          t.travel.lastLine = s.travel.lastLine ∧ t.head = { s.head with sent := [] }
          ∧ t.hz.notes = s.hz.notes)
      ∧ (s.travel.gate = .shut →
          t.travel.lastLine
            = (if s.travel.highWater < p then floorTo v.linePitch p else s.travel.lastLine)
          ∧ t.head = { s.head with sent := [] } ∧ t.hz.notes = s.hz.notes)

/-- A level of the gate input: no change, a change outside INSPECTING, the gate opening and shutting in
INSPECTING. -/
def Obligations.GateChangesOpenAndShutCovering : Prop :=
  ∀ (dt : Nat) (high : Bool) (s : State) (g : GateState), s.resetting = none → CoveringInv s →
    g = (if high && s.ctl.setup.any Setup.gateUsed then .shut else .opened) →
    (g = s.travel.gate → exec (.gateChange dt high) s
      = .next { s.begin dt with pins := { s.pins with gate := high } })
    ∧ (g ≠ s.travel.gate → s.ctl.mode ≠ .inspecting → exec (.gateChange dt high) s
      = .next { s.begin dt with
          pins := { s.pins with gate := high }, travel := { s.travel with gate := g } })
    ∧ ∀ v, s.ctl.setup = some v → g ≠ s.travel.gate → s.ctl.mode = .inspecting →
        ∃ t, exec (.gateChange dt high) s = .next t
          ∧ t = { s.begin dt with
              pins := { s.pins with gate := high }
              ctl := { s.ctl with covering := g == .opened }
              travel := { s.travel with gate := g, lastLine := t.travel.lastLine }
              head := t.head
              xcvr := { s.xcvr with queue := t.xcvr.queue, send := t.xcvr.send }
              hz := { s.hz with ownClearTo := t.hz.ownClearTo, horizon := t.hz.horizon
                                notes := t.hz.notes, ownGap := t.hz.ownGap }
              record := t.record, billet := t.billet, marker := t.marker, diag := t.diag }
          ∧ (g = .shut → t.hz.ownGap = some (s.frontier v)
              ∧ t.travel.lastLine = s.travel.lastLine ∧ t.head = { s.head with sent := [] })
          ∧ (g = .opened → t.hz.ownGap = none
              ∧ t.travel.lastLine = (if s.travel.lastLine + v.linePitch ≤ s.travel.position
                  then floorTo v.linePitch s.travel.position else s.travel.lastLine))

/-- A rise of strand-present is taken at once, in WAITING as the entry to INSPECTING; a fall starts the
dropout timer, or is taken at once before SETUP. A rise of an input that is high and a fall of one that
is low change nothing (the model's choice, log 3). -/
def Obligations.StrandPresentRisesAndFalls : Prop :=
  ∀ (dt : Nat) (s : State), s.resetting = none → CoveringInv s →
    (s.pins.strand = true → exec (.strandRise dt) s = .next (s.begin dt))
    ∧ (s.pins.strand = false → s.travel.strand = .asserted → exec (.strandRise dt) s
        = .next { s.begin dt with
            pins := { s.pins with strand := true }, travel := { s.travel with dropout := none } })
    ∧ (s.pins.strand = false → s.travel.strand = .clear → s.ctl.mode ≠ .waiting →
        exec (.strandRise dt) s = .next { s.begin dt with
            pins := { s.pins with strand := true }
            travel := { s.travel with strand := .asserted } })
    ∧ (∀ v, s.pins.strand = false → s.travel.strand = .clear → s.ctl.mode = .waiting →
        s.ctl.setup = some v → ∃ t, exec (.strandRise dt) s = .next t
          ∧ t = { s.begin dt with
              pins := { s.pins with strand := true }
              ctl := { s.ctl with mode := .inspecting, covering := s.travel.gate == .opened }
              travel := { s.travel with
                strand := .asserted, lastLine := floorTo v.linePitch s.travel.highWater }
              xcvr := { s.xcvr with queue := t.xcvr.queue, send := t.xcvr.send }
              hz := { s.hz with ownClearTo := t.hz.ownClearTo, horizon := t.hz.horizon
                                ownGap := if s.travel.gate = .opened then none else s.hz.ownGap }
              record := t.record, billet := t.billet, marker := t.marker, diag := t.diag })
    ∧ (s.pins.strand = false → exec (.strandFall dt) s = .next (s.begin dt))
    ∧ (s.pins.strand = true → s.travel.strand = .clear → exec (.strandFall dt) s
        = .next { s.begin dt with pins := { s.pins with strand := false } })
    ∧ (s.pins.strand = true → s.travel.strand = .asserted → s.ctl.setup = none →
        exec (.strandFall dt) s = .next { s.begin dt with
            pins := { s.pins with strand := false }
            travel := { s.travel with strand := .clear } })
    ∧ (∀ v, s.pins.strand = true → s.travel.strand = .asserted → s.ctl.setup = some v →
        exec (.strandFall dt) s = .next { s.begin dt with
            pins := { s.pins with strand := false }
            travel := { s.travel with dropout := some ((s.begin dt).nodeTime + v.dropoutTime) } })

/-- The dropout timer expires with the raw input low: strand-present becomes CLEAR, and in INSPECTING
that is strand end: the line in flight, the open traces, a BUSY build and covering end, and the
all-segment reference is asked for (under the next tag, which a stop does not advance: log 35). Not due,
or with the input high, nothing happens (the model's choice, log 3). -/
def Obligations.DropoutEndsTheStrand : Prop :=
  ∀ (dt due : Nat) (s : State) (v : Setup), s.resetting = none → s.travel.dropout = some due →
    s.ctl.setup = some v →
    (((s.begin dt).nodeTime < due ∨ s.pins.strand = true) →
      exec (.dropoutTimerExpiry dt) s = .next (s.begin dt))
    ∧ (due ≤ (s.begin dt).nodeTime → s.pins.strand = false → s.ctl.mode ≠ .inspecting →
        exec (.dropoutTimerExpiry dt) s = .next { s.begin dt with
          travel := { s.travel with strand := .clear, dropout := none } })
    ∧ (due ≤ (s.begin dt).nodeTime → s.pins.strand = false → s.ctl.mode = .inspecting →
        ∃ t, exec (.dropoutTimerExpiry dt) s = .next t
          ∧ t = { s.begin dt with
              ctl := { s.ctl with mode := .referencing, covering := false }
              travel := { s.travel with strand := .clear, dropout := none }
              head := { s.head with
                tag := s.head.tag + 1, line := none, sent := t.head.sent
                reference := some { scope := .all, tag := s.head.tag, taken := 0
                                    due := (s.begin dt).nodeTime + 20 } }
              sched := t.sched
              corr := { t.corr with gain := s.corr.gain }
              tracer := { s.tracer with
                slots := List.replicate 32 none, nextId := t.tracer.nextId, made := t.tracer.made
                lastClose := some { kind := .strandEnd, position := s.travel.lastLine } }
              xcvr := { s.xcvr with queue := t.xcvr.queue, send := t.xcvr.send }
              hz := { s.hz with ownClearTo := t.hz.ownClearTo, horizon := t.hz.horizon
                                ownGap := t.hz.ownGap }
              record := t.record, billet := t.billet, marker := t.marker, diag := t.diag }
          ∧ t.sched.allRunning = true
          ∧ t.corr.build = (if s.corr.build = .busy then .aborted else s.corr.build)
          ∧ t.hz.ownGap = (if s.ctl.covering then some (t.frontier v) else s.hz.ownGap))

/-! ### Cuts -/

/-- An edge of the cut input: no candidate, a bounce, the end of the numbers, and an own cut, which is
sent and judged. -/
def Obligations.CutEdgesMakeOwnCuts : Prop :=
  ∀ (dt : Nat) (high : Bool) (s u : State), s.resetting = none →
    u = { s.begin dt with
      pins := { s.pins with cut := high }, travel := { s.travel with cutLevel := high } } →
    ((high && !s.travel.cutLevel && s.ctl.setup.any Setup.cutReporting) = false →
      exec (.cutInputEdge dt high) s = .next u)
    ∧ ∀ (v : Setup) (p : Int), s.ctl.setup = some v → high = true → s.travel.cutLevel = false →
        v.cutReporting = true → p = max (-(2 ^ 31)) (s.travel.position - v.torchOffset) →
        ((∃ last ∈ s.travel.lastCut, |p - last| < v.minCutSpacing) →
          exec (.cutInputEdge dt high) s = .next (u.count .cutBounce))
        ∧ ((∀ last ∈ s.travel.lastCut, v.minCutSpacing ≤ |p - last|) →
            (s.travel.cutCounter = some (2 ^ 31 - 1) →
              exec (.cutInputEdge dt high) s = .next (u.setFlag .cutConflict))
            ∧ ∀ k : Nat, (s.travel.cutCounter = none ∧ k = v.firstCut
                  ∨ k ≤ 2 ^ 31 - 1 ∧ 1 ≤ k ∧ s.travel.cutCounter = some (k - 1)) →
                exec (.cutInputEdge dt high) s = .next (({ u with
                    travel := { u.travel with cutCounter := some k, lastCut := some p } }.handFrame
                  { address := .strandGroup, target := s.ctl.strand - 1, test := false
                    body := .cut k p }).takeCut v false k p))

/-- What the billet unit does with a cut: a duplicate, a conflict, a held tail, out of order, or a new
billet that closes the one before it; and which billet a full table retires for it: the oldest REPORTED
one but the newest, else the oldest, which counts VERDICT-LOST. -/
def Obligations.CutsAreJudgedAgainstTheTable : Prop :=
  ∀ (s : State) (v : Setup) (received : Bool) (k : Nat) (p : Int), BilletInv s →
    s.ctl.setup = some v →
    (∀ b ∈ s.billet.billets, |p - b.head| < v.cutTolerance →
        (∀ c ∈ s.billet.billets, |p - b.head| < |p - c.head|
          ∨ |p - b.head| = |p - c.head| ∧ b.head ≤ c.head) →
        s.takeCut v received k p = if b.number = k then s else s.setFlag .cutConflict)
    ∧ ((∀ b ∈ s.billet.billets, v.cutTolerance ≤ |p - b.head|) →
        ((∃ b ∈ s.billet.billets, ∃ q ∈ b.tail, |p - q| < v.cutTolerance) →
          s.takeCut v received k p = s)
        ∧ ((∀ b ∈ s.billet.billets, ∀ q ∈ b.tail, v.cutTolerance ≤ |p - q|) →
            ((∃ b ∈ s.billet.billets.getLast?, p < b.head ∨ k ≤ b.number) →
              s.takeCut v received k p = s.setFlag .cutConflict)
            ∧ ((∀ b ∈ s.billet.billets.getLast?, b.head ≤ p ∧ b.number < k) →
                ∃ t, s.takeCut v received k p = t
                  ∧ t = { s with
                      travel := { s.travel with cutCounter :=
                        if received && v.cutReporting then some k else s.travel.cutCounter }
                      xcvr := { s.xcvr with queue := t.xcvr.queue, send := t.xcvr.send }
                      record := { s.record with entries := t.record.entries }
                      billet := { s.billet with billets := t.billet.billets }, diag := t.diag }
                  ∧ (t.billet.billets.getLast?.map fun b => (b.number, b.head, b.tail, b.state))
                      = some (k, p, none, .opened)
                  ∧ (s.billet.billets.length < 16 →
                      t.billet.billets.map Billet.head = s.billet.billets.map Billet.head ++ [p]
                      ∧ t.billet.billets.dropLast.getLast?.map Billet.tail
                          = s.billet.billets.getLast?.map fun _ => some p)
                  ∧ ∀ (oldest next : Billet) (rest : List Billet),
                      s.billet.billets = oldest :: next :: rest → 16 ≤ s.billet.billets.length →
                      ((oldest.state = .reported
                          ∨ (∀ b ∈ (next :: rest).dropLast, b.state ≠ .reported)) →
                        t.billet.billets.map Billet.head
                          = next.head :: rest.map Billet.head ++ [p]
                        ∧ t.record.entries = s.record.entries.filter fun e =>
                            next.head ≤ e.stop.getD e.start
                        ∧ t.counter .verdictLost = (if oldest.state = .reported
                            then s.counter .verdictLost
                            else min 65535 (s.counter .verdictLost + 1)))
                      ∧ ∀ (pre post : List Billet) (b : Billet), oldest.state ≠ .reported →
                          next :: rest = pre ++ b :: post → post ≠ [] → b.state = .reported →
                          (∀ c ∈ pre, c.state ≠ .reported) →
                          t.billet.billets.map Billet.head
                            = oldest.head :: (pre ++ post).map Billet.head ++ [p]
                          ∧ t.record = s.record
                          ∧ t.counter .verdictLost = s.counter .verdictLost)))

/-! ### The sensor head -/

/-- A current line arrival ends the line in flight; in INSPECTING its runs go to the tracer, and a crowded
line is counted and noted. In a BUSY build a line with runs is left out; one without adds raw less dark
and one sample to every column that is not blind, and at the target the gains are those of R53, or the
build ends ABORTED by R54. The mean of no pixel is a free value (log 15). Either arrival command does so
(log 24). -/
def Obligations.CurrentLinesAreHandedOn : Prop :=
  ∀ (dt : Nat) (tag : BitVec 8) (raw : List (BitVec 12)) (withheld : SegMask) (c : Instr)
    (s : State) (v : Setup) (l : LineInFlight) (blind : SegMask) (runs : List Run)
    (sum : Nat → Int) (samples : Nat → Nat) (ended : Corrector),
    c = .lineArrival dt tag raw withheld ∨ c = .probeArrival dt tag raw withheld →
    s.resetting = none → CorrectorInv s → s.ctl.setup = some v → s.head.line = some l →
    l.tag = tag → blind = l.blind ||| withheld →
    runs = lineRuns v (lineContrasts v blind l.position (rawValues 2048 raw) s.corr.dark
      s.corr.gain) →
    (∀ p, sum p = s.corr.sums.getD p 0 + if blind.getLsbD (p / 256) then 0
      else ((raw.getD p 0).toNat : Int) - s.corr.dark.getD p 0) →
    (∀ p, samples p = s.corr.samples.getD p 0 + if blind.getLsbD (p / 256) then 0 else 1) →
    ended = { s.corr with
      target := none, lines := 0, sums := List.replicate 2048 0
      samples := List.replicate 2048 0 } →
    ∃ t, exec c s = .next t
      ∧ t = { s.begin dt with
          freeDraws := t.freeDraws
          head := { s.head with line := none, timeouts := 0, sent := [] }
          corr := { t.corr with dark := s.corr.dark }
          tracer := { s.tracer with awaiting := t.tracer.awaiting }
          xcvr := { s.xcvr with queue := t.xcvr.queue, send := t.xcvr.send }
          hz := { s.hz with ownClearTo := t.hz.ownClearTo, horizon := t.hz.horizon
                            notes := t.hz.notes }
          record := t.record, billet := t.billet, marker := t.marker, diag := t.diag }
      ∧ (s.ctl.mode ≠ .inspecting → t.tracer = s.tracer ∧ t.corr = s.corr
          ∧ t.hz.notes = s.hz.notes)
      ∧ (s.ctl.mode = .inspecting →
          t.tracer.awaiting = s.tracer.awaiting ++ [{
            position := l.position, runs := runs.take 16, blind := blind
            stale := (s.begin dt).staleSet, crowded := decide (16 < runs.length)
            synthetic := v.synthetic }]
          ∧ t.hz.notes = (if 16 < runs.length then
              mergeRange v.linePitch s.hz.inDelivery.isSome s.hz.notes l.position l.position
            else s.hz.notes)
          ∧ t.counter .runOverflow = (if 16 < runs.length then
              min 65535 (s.counter .runOverflow + 1) else s.counter .runOverflow)
          ∧ (s.corr.build ≠ .busy ∨ runs ≠ [] → t.corr = s.corr)
          ∧ (s.corr.build = .busy → runs = [] → s.corr.target ≠ some (s.corr.lines + 1) →
              t.corr = { s.corr with
                lines := s.corr.lines + 1, sums := (List.range 2048).map sum
                samples := (List.range 2048).map samples })
          ∧ (s.corr.build = .busy → runs = [] → s.corr.target = some (s.corr.lines + 1) →
              ((∀ p < 2048, samples p = 0) →
                t.corr = { ended with build := .done }
                ∨ t.corr = { ended with build := .aborted })
              ∧ ∀ (pixels : List Nat) (mean : Nat → Int) (m : Int), pixels ≠ [] →
                  pixels = ((List.range 2048).filter fun p => 0 < samples p) →
                  (∀ p, mean p = sum p / (samples p : Int)) →
                  m = (pixels.map mean).sum / (pixels.length : Int) →
                  (m ≤ 0 → t.corr = { ended with build := .aborted })
                  ∧ (0 < m → t.corr = { ended with
                      build := .done
                      gain := (List.range 2048).map fun p =>
                        if samples p = 0 then s.corr.gain.getD p 0
                        else if mean p ≤ 0 then 4095
                        else (max 256 (min 4095 (1024 * m / mean p))).toNat })))

/-- A stale arrival or readout makes the consecutive timeout count 0, but in HEAD-FAULT not even that. -/
def Obligations.StaleAnswersOnlyClearTheTimeouts : Prop :=
  ∀ (dt : Nat) (tag : BitVec 8) (raw : List (BitVec 12)) (withheld : SegMask) (s u : State),
    s.resetting = none →
    u = (if s.ctl.mode = .headFault then s.begin dt
      else { s.begin dt with head := { s.head with timeouts := 0, sent := [] } }) →
    ((∀ l ∈ s.head.line, l.tag ≠ tag) → (∀ p ∈ s.head.probe, p.tag ≠ tag) →
      exec (.lineArrival dt tag raw withheld) s = .next u
      ∧ exec (.probeArrival dt tag raw withheld) s = .next u)
    ∧ ((∀ r ∈ s.head.reference, r.tag ≠ tag) → exec (.referenceReadout dt tag raw) s = .next u)

/-- A line not answered within 20 ms is counted and noted; before the sixteenth timeout nothing more
follows. Before its time the command changes nothing (the model's choice, log 3). -/
def Obligations.LineTimeoutsLeaveANote : Prop :=
  ∀ (dt : Nat) (s : State) (v : Setup) (l : LineInFlight), s.resetting = none →
    s.ctl.setup = some v → s.head.line = some l →
    ((s.begin dt).nodeTime < l.requestedAt + 20 → exec (.lineTimeout dt) s = .next (s.begin dt))
    ∧ (l.requestedAt + 20 ≤ (s.begin dt).nodeTime → s.head.timeouts < 15 →
        ∃ t, exec (.lineTimeout dt) s = .next t
          ∧ t = { s.begin dt with
              head := { s.head with
                line := none, timeouts := s.head.timeouts + 1, sent := [] }
              xcvr := { s.xcvr with queue := t.xcvr.queue, send := t.xcvr.send }
              hz := { s.hz with
                ownClearTo := t.hz.ownClearTo, horizon := t.hz.horizon
                notes := mergeRange v.linePitch s.hz.inDelivery.isSome s.hz.notes
                  l.position l.position }
              record := t.record, billet := t.billet, marker := t.marker, diag := t.diag }
          ∧ t.counter .lineTimeout = min 65535 (s.counter .lineTimeout + 1))

/-- The sixteenth timeout in a row, of a line or of a readout, enters HEAD-FAULT: the line in flight is
lost with a note, the reference outstanding is stopped and its cycle ends as R37 has it, every open trace
closes with INTERRUPTED, a BUSY build is aborted, and covering falls with the own GAP opened at the line
frontier. That a readout timeout of an all-segment reference still asks afresh before the stop (log 13)
and that a stop does not advance the request tag (log 35) are the model's choices. -/
def Obligations.SixteenTimeoutsEnterHeadFault : Prop :=
  ∀ (dt now : Nat) (s : State) (v : Setup) (c : Instr), s.resetting = none →
    s.ctl.setup = some v → s.head.timeouts = 15 → now = (s.begin dt).nodeTime →
    s.ctl.mode = .referencing ∨ s.ctl.mode = .waiting ∨ s.ctl.mode = .inspecting →
    (c = .lineTimeout dt ∧ (∃ l ∈ s.head.line, l.requestedAt + 20 ≤ now)
      ∨ c = .readoutTimeout dt ∧ ∃ r ∈ s.head.reference, r.due ≤ now) →
    ∃ t, exec c s = .next t
      ∧ t = { s.begin dt with
          ctl := { s.ctl with mode := .headFault, covering := false }
          head := { s.head with
            tag := t.head.tag, line := none, reference := none, timeouts := 16
            probeTimer := some (now + 100), sent := t.head.sent }
          sched := t.sched
          corr := { t.corr with gain := s.corr.gain }
          tracer := { s.tracer with
            slots := List.replicate 32 none, nextId := t.tracer.nextId, made := t.tracer.made
            lastClose := some { kind := .headFault, position := s.travel.lastLine } }
          xcvr := { s.xcvr with queue := t.xcvr.queue, send := t.xcvr.send }
          hz := { s.hz with ownClearTo := t.hz.ownClearTo, horizon := t.hz.horizon
                            notes := t.hz.notes, ownGap := t.hz.ownGap }
          record := t.record, billet := t.billet, marker := t.marker, diag := t.diag }
      ∧ t.flag .headFault = true
      ∧ t.counter .lineTimeout = min 65535 (s.counter .lineTimeout + 1)
      ∧ t.hz.notes = (match s.head.line with
          | none => s.hz.notes
          | some l => mergeRange v.linePitch s.hz.inDelivery.isSome s.hz.notes l.position l.position)
      ∧ t.corr.build = (if s.corr.build = .busy then .aborted else s.corr.build)
      ∧ t.hz.ownGap = (if s.ctl.covering then some (t.frontier v) else s.hz.ownGap)
      ∧ (s.ctl.covering = true → HorizonInv s → s.hz.ownClearTo ≤ t.frontier v →
          s.record.pending.length + s.tracer.slots.countP Option.isSome < 64 →
          .gap s.ctl.face s.ownId (t.frontier v) none ∈ t.record.pending)
      ∧ (∀ (x : Trace) (lo hi : Nat) (f : Finding), some x ∈ s.tracer.slots →
          x.extent = some (lo, hi) → f = s.findingOf v x lo hi → f.cls ≠ .minor ∨ f.severity ≠ 0 →
          s.xcvr.queue.length + s.tracer.slots.countP Option.isSome ≤ 16 →
          ∃ id n, s.toStrand f.test (.finding { f with
            id := id, flags := { f.flags with interrupted := true } } n) ∈ t.xcvr.queue)
      ∧ (s.head.reference = none → t.sched = s.sched ∧ t.corr.dark = s.corr.dark
          ∧ t.head.tag = s.head.tag ∧ t.head.sent = [])
      ∧ (∀ (r : Reference) (i : Fin 8), s.head.reference = some r → r.scope = .segment i →
          t.head.tag = s.head.tag ∧ t.head.sent = [.referenceStop r.tag]
          ∧ t.corr.dark = (if 8 ≤ r.taken then s.corr.dark.take (256 * i)
              ++ s.sched.accum.map (· / r.taken) ++ s.corr.dark.drop (256 * (i + 1))
            else s.corr.dark)
          ∧ t.sched = { s.sched with
              segs := s.sched.segs.set i {
                state := .current, postponed := 0
                lastReference := if 8 ≤ r.taken then some now else (s.seg i).lastReference }
              pointer := if 8 ≤ r.taken then i + 1 else s.sched.pointer
              accum := [] })
      ∧ ∀ r : Reference, s.head.reference = some r → r.scope = .all →
          (c = .lineTimeout dt → t.head.tag = s.head.tag ∧ t.head.sent = [.referenceStop r.tag])
          ∧ (c = .readoutTimeout dt → t.head.tag = s.head.tag + 1
              ∧ t.head.sent = [.referenceRequest s.head.tag .all, .referenceStop s.head.tag])
          ∧ t.corr.dark = (if 8 ≤ r.taken then s.sched.accum.map (· / r.taken) else s.corr.dark)
          ∧ t.sched = { s.sched with
              segs := s.sched.segs.map fun g => {
                state := .current, postponed := 0
                lastReference := if 8 ≤ r.taken then some now else g.lastReference }
              allRunning := false, accum := [] }

/-- A current readout before the sixteenth is added to the accumulators and restarts the readout
timer. -/
def Obligations.ReadoutsAreAccumulated : Prop :=
  ∀ (dt : Nat) (tag : BitVec 8) (raw : List (BitVec 12)) (s : State) (r : Reference),
    s.resetting = none → s.head.reference = some r → r.tag = tag → r.taken < 15 →
    raw.length = s.sched.accum.length →
    exec (.referenceReadout dt tag raw) s = .next { s.begin dt with
      head := { s.head with
        timeouts := 0, sent := []
        reference := some { r with
          taken := r.taken + 1, due := (s.begin dt).nodeTime + 20 } }
      sched := { s.sched with
        accum := List.zipWith (fun x y => x + y.toNat) s.sched.accum raw } }

/-- The sixteenth readout ends the reference: the means are written to the dark table; a segment becomes
CURRENT with the pointer behind it and the DUE test follows; after all segments the mode is chosen by
strand-present. -/
def Obligations.TheSixteenthReadoutEndsTheReference : Prop :=
  ∀ (dt : Nat) (tag : BitVec 8) (raw : List (BitVec 12)) (s : State) (r : Reference)
    (means : List Nat), s.resetting = none → s.head.reference = some r → r.tag = tag →
    r.taken = 15 → raw.length = s.sched.accum.length →
    means = List.zipWith (fun x y => (x + y.toNat) / 16) s.sched.accum raw →
    (∀ i : Fin 8, r.scope = .segment i → exec (.referenceReadout dt tag raw) s
      = .next { s.begin dt with
          head := { s.head with timeouts := 0, reference := none, sent := [] }
          corr := { s.corr with
            dark := s.corr.dark.take (256 * i) ++ means ++ s.corr.dark.drop (256 * (i + 1)) }
          sched := { s.sched with
            segs := s.sched.segs.set i { state := .current, postponed := 0
                                         lastReference := some (s.begin dt).nodeTime }
            pointer := i + 1, accum := [] } }.dueTest)
    ∧ ∀ v, r.scope = .all → s.ctl.setup = some v →
        ∃ t, exec (.referenceReadout dt tag raw) s = .next t
          ∧ t = { s.begin dt with
              head := { s.head with timeouts := 0, reference := none, sent := [] }
              corr := { s.corr with dark := means }
              sched := { s.sched with
                segs := s.sched.segs.map fun _ =>
                  { state := .current, postponed := 0
                    lastReference := some (s.begin dt).nodeTime }
                pointer := 0, ticks := 0, allRunning := false, accum := [] }
              ctl := t.ctl, travel := t.travel
              xcvr := { s.xcvr with queue := t.xcvr.queue, send := t.xcvr.send }
              hz := { s.hz with ownClearTo := t.hz.ownClearTo, horizon := t.hz.horizon
                                ownGap := t.hz.ownGap }
              record := t.record, billet := t.billet, marker := t.marker, diag := t.diag }
          ∧ (s.travel.strand = .clear →
              t.ctl = { s.ctl with mode := .waiting } ∧ t.travel = s.travel)
          ∧ (s.travel.strand = .asserted →
              t.ctl = { s.ctl with
                mode := .inspecting, covering := s.travel.gate == .opened }
              ∧ t.travel = { s.travel with
                  lastLine := floorTo v.linePitch s.travel.highWater })

/-- A readout timeout before the sixteenth asks an all-segment reference afresh, and truncates a cycle:
accepted from 8 readouts on, discarded below, and the DUE test follows. Before its time the command
changes nothing (the model's choice, log 3); a stop does not advance the request tag (log 35). -/
def Obligations.ReadoutTimeoutsCutTheCycle : Prop :=
  ∀ (dt : Nat) (s : State) (v : Setup) (r : Reference), s.resetting = none → PortInv s →
    s.ctl.setup = some v → s.head.reference = some r → s.head.timeouts < 15 →
    ((s.begin dt).nodeTime < r.due → exec (.readoutTimeout dt) s = .next (s.begin dt))
    ∧ (r.due ≤ (s.begin dt).nodeTime → r.scope = .all → exec (.readoutTimeout dt) s
        = .next ({ s.begin dt with
            head := { s.head with
              tag := s.head.tag + 1, timeouts := s.head.timeouts + 1
              reference := some { scope := .all, tag := s.head.tag, taken := r.taken
                                  due := (s.begin dt).nodeTime + 20 }
              sent := [.referenceRequest s.head.tag .all] } }.count .lineTimeout))
    ∧ ∀ i : Fin 8, r.due ≤ (s.begin dt).nodeTime → r.scope = .segment i →
        exec (.readoutTimeout dt) s = .next ({ s.begin dt with
            head := { s.head with
              timeouts := s.head.timeouts + 1, reference := none
              sent := [.referenceStop r.tag] }
            corr := { s.corr with dark :=
              if 8 ≤ r.taken then s.corr.dark.take (256 * i)
                ++ s.sched.accum.map (· / r.taken) ++ s.corr.dark.drop (256 * (i + 1))
              else s.corr.dark }
            sched := { s.sched with
              segs := s.sched.segs.set i { state := .current, postponed := 0
                                           lastReference := if 8 ≤ r.taken
                                             then some (s.begin dt).nodeTime
                                             else (s.seg i).lastReference }
              pointer := if 8 ≤ r.taken then i + 1 else s.sched.pointer
              accum := [] } }.count .lineTimeout).dueTest

/-- Probes: sent at each expiry of the probe timer while none is in flight, absent again after 20 ms. The
timer runs on from its due time (log 33); before their time the two commands change nothing (the model's
choice, log 3). -/
def Obligations.ProbesAreSentAndTimedOut : Prop :=
  ∀ (dt due : Nat) (s : State), s.resetting = none → s.head.probeTimer = some due →
    ((s.begin dt).nodeTime < due → exec (.probeTimerExpiry dt) s = .next (s.begin dt))
    ∧ (due ≤ (s.begin dt).nodeTime → s.head.probe.isSome = true →
        exec (.probeTimerExpiry dt) s = .next { s.begin dt with
          head := { s.head with probeTimer := some (due + 100), sent := [] } })
    ∧ (due ≤ (s.begin dt).nodeTime → s.head.probe = none →
        exec (.probeTimerExpiry dt) s = .next { s.begin dt with
          head := { s.head with
            probeTimer := some (due + 100), tag := s.head.tag + 1
            probe := some { tag := s.head.tag, requestedAt := (s.begin dt).nodeTime }
            sent := [.probeRequest s.head.tag 0] } })
    ∧ ∀ p, s.head.probe = some p → exec (.probeTimeout dt) s
        = .next (if p.requestedAt + 20 ≤ (s.begin dt).nodeTime
            then { s.begin dt with head := { s.head with probe := none, sent := [] } }
            else s.begin dt)

/-- A current probe arrival, by either arrival command (log 24), recovers the node: REFERENCING, with the
all-segment reference asked for. -/
def Obligations.AProbeAnswerRecoversTheNode : Prop :=
  ∀ (dt : Nat) (tag : BitVec 8) (raw : List (BitVec 12)) (withheld : SegMask) (c : Instr)
    (s : State) (p : Probe),
    c = .probeArrival dt tag raw withheld ∨ c = .lineArrival dt tag raw withheld →
    s.resetting = none → s.head.line = none → s.head.reference = none →
    s.head.probe = some p → p.tag = tag →
    ∃ t, exec c s = .next t
      ∧ t = { s.begin dt with
          ctl := { s.ctl with mode := .referencing }
          head := { s.head with
            tag := s.head.tag + 1, timeouts := 0, probe := none, probeTimer := none
            reference := some { scope := .all, tag := s.head.tag, taken := 0
                                due := (s.begin dt).nodeTime + 20 }
            sent := [.referenceRequest s.head.tag .all] }
          sched := { s.sched with allRunning := true, accum := List.replicate 2048 0 }
          xcvr := { s.xcvr with queue := t.xcvr.queue, send := t.xcvr.send }
          hz := { s.hz with ownClearTo := t.hz.ownClearTo, horizon := t.hz.horizon }
          record := t.record, billet := t.billet, marker := t.marker, diag := t.diag }

/-- A tick counts up to 8 and is followed by the DUE test; the DUE test takes a tick for the segment at
the pointer and starts its cycle, unless an open trace's last span touches the segment. The timer runs on
from its due time (log 33); before it the command changes nothing (the model's choice, log 3). -/
def Obligations.TicksMakeSegmentsDue : Prop :=
  (∀ (dt due : Nat) (s : State) (v : Setup), s.resetting = none → s.ctl.setup = some v →
    s.sched.tickTimer = some due →
    ((s.begin dt).nodeTime < due → exec (.tick dt) s = .next (s.begin dt))
    ∧ (due ≤ (s.begin dt).nodeTime → exec (.tick dt) s = .next { s.begin dt with
        sched := { s.sched with
          tickTimer := some (due + v.referenceInterval * 1000 / 8)
          ticks := min 8 (s.sched.ticks + 1) } }.dueTest))
  ∧ ∀ s : State,
    (s.sched.allRunning = true ∨ s.ctl.mode = .headFault ∨ s.sched.ticks = 0
        ∨ (∃ g ∈ s.sched.segs, g.state ≠ .current) → s.dueTest = s)
    ∧ ∀ touching : Bool, s.sched.allRunning = false → 1 ≤ s.sched.ticks →
        (∀ g ∈ s.sched.segs, g.state = .current) →
        (touching = true ↔ ∃ t, some t ∈ s.tracer.slots
          ∧ t.spanLo / 256 ≤ s.sched.pointer.val ∧ s.sched.pointer.val ≤ t.spanHi / 256) →
        (s.ctl.mode = .waiting ∨ s.ctl.mode = .inspecting ∧ touching = false →
          s.dueTest = { s with
            head := { s.head with
              tag := s.head.tag + 1
              reference := some { scope := .segment s.sched.pointer, tag := s.head.tag
                                  taken := 0, due := s.nodeTime + 20 }
              sent := s.head.sent
                ++ [.referenceRequest s.head.tag (.segment s.sched.pointer)] }
            sched := { s.sched with
              segs := s.sched.segs.set s.sched.pointer
                { s.seg s.sched.pointer with state := .blind, postponed := 0 }
              ticks := s.sched.ticks - 1, accum := List.replicate 256 0 } })
        ∧ (s.ctl.mode = .inspecting ∧ touching = true →
          s.dueTest = { s with sched := { s.sched with
            segs := s.sched.segs.set s.sched.pointer
              { s.seg s.sched.pointer with state := .due, postponed := 0 }
            ticks := s.sched.ticks - 1 } })

/-! ### Tracing -/

/-- The tracer takes the oldest line that awaits it: discarded if handed over before the last close, with
a note after a head fault; without runs it ages every trace: one whose last span is wholly blind keeps its
idle and takes HELD, the idle of any other rises by one, and above the gap lines the trace closes; on an
empty table each run opens one. -/
def Obligations.ProcessedLinesAgeAndOpenTraces : Prop :=
  ∀ (dt : Nat) (s : State) (v : Setup) (line : ProcessedLine) (rest : List ProcessedLine),
    s.resetting = none → s.ctl.setup = some v → TraceInv s → CapacityInv s →
    s.tracer.awaiting = line :: rest →
    ∃ t, exec (.processedLine dt) s = .next t
      ∧ t = { s.begin dt with
          head := { s.head with
            tag := t.head.tag, reference := t.head.reference, sent := t.head.sent }
          sched := t.sched
          tracer := { s.tracer with
            awaiting := rest, slots := t.tracer.slots, nextId := t.tracer.nextId
            made := t.tracer.made }
          xcvr := { s.xcvr with queue := t.xcvr.queue, send := t.xcvr.send }
          hz := { s.hz with ownClearTo := t.hz.ownClearTo, horizon := t.hz.horizon
                            notes := t.hz.notes }
          record := t.record, billet := t.billet, marker := t.marker, diag := t.diag }
      ∧ (∀ c, s.tracer.lastClose = some c → line.position ≤ c.position →
          t.tracer = { s.tracer with awaiting := rest } ∧ t.sched = s.sched
          ∧ t.hz.notes = (if c.kind = .headFault then
              mergeRange v.linePitch s.hz.inDelivery.isSome s.hz.notes line.position line.position
            else s.hz.notes))
      ∧ ((∀ c ∈ s.tracer.lastClose, c.position < line.position) →
          (line.runs = [] →
            t.tracer.slots = s.tracer.slots.map fun slot =>
              (slot.map fun x =>
                if (List.range 2048).all fun p =>
                    p < x.spanLo || x.spanHi < p || line.blind.getLsbD (p / 256)
                then { x with flags := { x.flags with held := true } }
                else { x with idle := x.idle + 1 }).filter fun u => u.idle ≤ v.gapLines)
          ∧ (s.tracer.slots = List.replicate 32 none → line.runs.length ≤ 32 →
              t.hz.notes = s.hz.notes
              ∧ t.tracer.slots = (line.runs.map fun r => some {
                  first := line.position, last := line.position, spanLo := r.lo, spanHi := r.hi
                  extent := some (r.lo, r.hi), peak := r.peak, lines := 1, idle := 0
                  flags := { unverified := r.inSet line.stale, crowded := line.crowded } })
                ++ List.replicate (32 - line.runs.length) none))

/-- A line with one run: the trace it alone matches is extended; of two it matches the older takes the
other in and is extended. -/
def Obligations.MatchedRunsExtendAndJoin : Prop :=
  ∀ (dt : Nat) (s : State) (v : Setup) (line : ProcessedLine) (rest : List ProcessedLine) (r : Run)
    (i j : Nat) (x y : Trace), s.resetting = none → s.ctl.setup = some v →
    s.tracer.slots.length = 32 → s.tracer.awaiting = line :: rest →
    (∀ c ∈ s.tracer.lastClose, c.position < line.position) → line.runs = [r] →
    s.tracer.slots[i]? = some (some x) → s.tracer.slots[j]? = some (some y) →
    (∀ (k : Nat) (w : Trace), s.tracer.slots[k]? = some (some w) →
      ((r.lo ≤ w.spanHi + v.columnTolerance ∧ w.spanLo ≤ r.hi + v.columnTolerance)
        ↔ k = i ∨ k = j)) →
    ∃ t, exec (.processedLine dt) s = .next t
      ∧ (i = j → x.lines + 1 < 4096 → t.tracer.slots[i]? = some (some { x with
          last := line.position, spanLo := r.lo, spanHi := r.hi
          extent := coverExtent x.extent (some (r.lo, r.hi))
          peak := max x.peak r.peak, lines := x.lines + 1, idle := 0
          flags := x.flags.union
            { unverified := r.inSet line.stale, crowded := line.crowded } }))
      ∧ (i < j → x.lines + 1 < 4096 → y.lines + 1 < 4096 →
          ∀ (m n : Nat) (a b : Trace),
            (m, n, a, b) = (if x.first ≤ y.first then (i, j, x, y) else (j, i, y, x)) →
            t.tracer.slots[n]? = some none
            ∧ t.tracer.slots[m]? = some (some {
                first := a.first, last := line.position, spanLo := r.lo, spanHi := r.hi
                extent := coverExtent (coverExtent a.extent b.extent) (some (r.lo, r.hi))
                peak := max (max a.peak b.peak) r.peak, lines := max a.lines b.lines + 1, idle := 0
                flags := (a.flags.union b.flags).union
                  { branched := true, unverified := r.inSet line.stale
                    crowded := line.crowded } }))

/-- The four LUT curves, their ends, and that none decreases (R45). -/
def Obligations.ScoreFollowsTheLutCurve : Prop :=
  ∀ c, c ≤ 255 →
    score .linear c = c
    ∧ (score .root c) ^ 2 ≤ 255 * c ∧ 255 * c < (score .root c + 1) ^ 2
    ∧ 2 ^ (8 * score .log c) ≤ (1 + c) ^ 255 ∧ (1 + c) ^ 255 < 2 ^ (8 * (score .log c + 1))
    ∧ 7 * score .step c ≤ 255 * (c / 32) ∧ 255 * (c / 32) < 7 * (score .step c + 1)
    ∧ ∀ k : LutCurve, score k 0 = 0 ∧ score k 255 = 255 ∧ ∀ d, d ≤ c → score k d ≤ score k c

/-- The runs of a line are its maximal stretches at or above the threshold, ascending and apart, each
with its highest score (R47). -/
def Obligations.RunsAreMaximalStretches : Prop :=
  ∀ (v : Setup) (cols : Columns) (runs : List Run), 1 ≤ v.runThreshold →
    (∀ c x : Nat, cols[c]? = some (some x) → x ≤ 255) → runs = lineRuns v cols →
    (∀ p : Nat, (∃ r ∈ runs, r.lo ≤ p ∧ p ≤ r.hi)
      ↔ ∃ x, cols[p]? = some (some x) ∧ v.runThreshold ≤ score v.lutCurve x)
    ∧ runs.Pairwise (fun a b => a.hi + 1 < b.lo)
    ∧ ∀ r ∈ runs, r.lo ≤ r.hi ∧ v.runThreshold ≤ r.peak ∧ r.peak ≤ 255
        ∧ (∃ p x : Nat, r.lo ≤ p ∧ p ≤ r.hi ∧ cols[p]? = some (some x) ∧ score v.lutCurve x = r.peak)
        ∧ ∀ p x : Nat, r.lo ≤ p → p ≤ r.hi → cols[p]? = some (some x) → score v.lutCurve x ≤ r.peak

/-- A column that is not blind is corrected, set against the mean of the corrected values in its window,
and given its contrast; a blind column has none. -/
def Obligations.ContrastsAreTakenAgainstTheBackground : Prop :=
  ∀ (v : Setup) (blind : SegMask) (position : Int) (raw dark gain : List Nat) (p : Nat)
    (corrected : Nat → Nat) (window : List Nat), v.synthetic = false → raw.length = 2048 →
    dark.length = 2048 → gain.length = 2048 → p < 2048 →
    (∀ q, corrected q = (max 0 (min 4095 ((((raw.getD q 0 : Int) - dark.getD q 0) * gain.getD q 0)
      / 1024))).toNat) →
    window = ((List.range 2048).filter fun q =>
      decide (p ≤ q + 15) && decide (q ≤ p + 15) && !blind.getLsbD (q / 256)) →
    (lineContrasts v blind position raw dark gain)[p]? = some (
      if blind.getLsbD (p / 256) then none
      else
        let background := (window.map corrected).sum / window.length
        some (match v.polarity with
          | .dark => min 255 (background - corrected p)
          | .bright => min 255 (corrected p - background)))

/-- The class of a closed trace and its corner flags (R76). -/
def Obligations.ClosedTracesAreClassified : Prop :=
  ∀ (s : State) (v : Setup) (t : Trace) (lo hi : Nat) (len : Int) (low high : Prop) (f : Finding),
    lo ≤ hi → hi < 2048 → len = t.last - t.first + v.linePitch →
    (low ↔ lo < v.cornerZone) → (high ↔ (2048 - v.cornerZone : Int) ≤ hi) →
    f = s.findingOf v t lo hi →
    (v.transverseExtent ≤ hi - lo + 1 ∧ len < v.longitudinalLength → f.cls = .transverse)
    ∧ (¬(v.transverseExtent ≤ hi - lo + 1 ∧ len < v.longitudinalLength) →
        ((low ∧ ¬high ∨ high ∧ ¬low) → f.cls = .corner)
        ∧ ((low ↔ high) → (v.longitudinalLength ≤ len → f.cls = .longitudinal)
            ∧ (len < v.longitudinalLength → f.cls = .minor)))
    ∧ (f.flags.cornerLow = true ↔ f.cls = .corner ∧ low)
    ∧ (f.flags.cornerHigh = true ↔ f.cls = .corner ∧ high)

/-- The severity of a closed trace; a MINOR one of severity 0 is dismissed, every other is made a
finding and handed on (R77). -/
def Obligations.SeverityDecidesDismissal : Prop :=
  (∀ (v : Setup) (peak : Nat), v.s1 < v.s2 → v.s2 < v.s3 →
    (peak < v.s1 → severityOf v peak = 0)
    ∧ (v.s1 ≤ peak → peak < v.s2 → severityOf v peak = 1)
    ∧ (v.s2 ≤ peak → peak < v.s3 → severityOf v peak = 2)
    ∧ (v.s3 ≤ peak → severityOf v peak = 3))
  ∧ ∀ (v : Setup) (s : State) (t : Trace) (lo hi : Nat) (f : Finding), t.extent = some (lo, hi) →
      f = s.findingOf v t lo hi → f.severity = severityOf v t.peak
      ∧ (f.cls = .minor → f.severity = 0 → s.takeClosed v t = s.count .dismissed)
      ∧ (f.cls ≠ .minor ∨ f.severity ≠ 0 → s.takeClosed v t = s.handFinding f
          ∧ f.id = s.tracer.nextId
          ∧ (s.takeClosed v t).tracer.nextId = (s.tracer.nextId + 1) % 65536)

/-! ### The strand line -/

/-- A try begins when the head frame waits: the copy is taken, and a HORIZON frame takes the oldest note
into delivery. On a BUSY line the idle gap completes with the take, and the frame that ends there is heard
during the try (R106; log 38), which keeps its copy whatever frame ends and whatever is cleared. With no frame
waiting, or during a try, the command changes nothing (the model's choice, log 3). -/
def Obligations.TriesTakeTheOldestFrame : Prop :=
  (∀ (dt : Nat) (s : State), s.resetting = none →
    (∀ f rest, s.xcvr.send = .waiting → s.xcvr.queue = f :: rest → ∃ t,
      exec (.transmitTry dt) s = .next t
        ∧ t = { s.begin dt with
            xcvr := { s.xcvr with
              line := .busy, firstGap := false, ending := t.xcvr.ending, send := .sending
              taken := some ((s.begin dt).takeCopy f) }
            hz := { s.hz with
              inDelivery := if f.body = .horizon then s.hz.notes.head? else s.hz.inDelivery } }
        ∧ (Hearing t ↔ s.xcvr.line = .busy ∧ s.xcvr.firstGap = false))
    ∧ (s.xcvr.send = .waiting → s.xcvr.queue = [] →
        exec (.transmitTry dt) s
          = .next { s.begin dt with xcvr := { s.xcvr with send := .empty } })
    ∧ (s.xcvr.send ≠ .waiting → exec (.transmitTry dt) s = .next (s.begin dt)))
  ∧ ∀ (c : FrameClass) (dt : Nat) (s t : State) (f : RxFrame), s.xcvr.send = .sending →
      s.xcvr.line = .busy → exec (c.command dt f) s = .next t →
      t.xcvr.taken = s.xcvr.taken ∧ t.xcvr.send = .sending
      ∧ (s.xcvr.firstGap = false → t.xcvr.line = .busy ∧ ¬Hearing t)

/-- The head of a taken copy names its class, the sender, the fault bit, the address and the length; its
check is that of head and body; a HORIZON body carries the clear-to of the take. -/
def Obligations.TakenCopiesSayTheirFrame : Prop :=
  ∀ (s : State) (f : TxFrame) (c : TakenCopy), s.ownId < 32 → f.target < 32 →
    (s.bodyBytes f.body).length < 64 → c = s.takeCopy f →
    c.head.length = 3 ∧ c.body = s.bodyBytes f.body
    ∧ (c.head.head?.map fun b => b.toNat / 16) = some f.body.classCode
    ∧ parseHead c.head = {
        sender := s.ownId, address := f.address, target := f.target, test := f.test
        fault := s.flag .length || s.flag .check || s.flag .form || s.flag .state
        length := c.body.length }
    ∧ natBE c.check = (crc (c.head ++ c.body)).toNat ∧ c.check.length = 2
    ∧ (f.body = .horizon → c.clearTo = some s.hz.ownClearTo
        ∧ (-(2 ^ 31) ≤ s.travel.position → s.travel.position < 2 ^ 31 →
            -(2 ^ 31) ≤ s.hz.ownClearTo → s.hz.ownClearTo < 2 ^ 31 →
            (parseHorizon c.body).stamp = s.travel.position
            ∧ (parseHorizon c.body).clearTo = s.hz.ownClearTo
            ∧ (parseHorizon c.body).covering = s.hz.ownGap.isNone))

/-- A receiver reads from CUT, FINDING and VERDICT bodies the fields the sender put in. -/
def Obligations.BodiesCarryTheirFields : Prop :=
  (∀ (k : Nat) (p : Int), k < 2 ^ 32 → -(2 ^ 31) ≤ p → p < 2 ^ 31 →
    fieldAt (cutBytes k p) 0 4 = k ∧ positionAt (cutBytes k p) 4 = p
    ∧ (cutBytes k p).length = 9)
  ∧ (∀ f : Finding, f.origin < 256 → f.id < 65536 → f.face < 4 → f.severity < 4 →
      -(2 ^ 31) ≤ f.start → f.start < 2 ^ 31 → -(2 ^ 31) ≤ f.stop → f.stop < 2 ^ 31 →
      f.colMin < 4096 → f.colMax < 4096 → f.peak < 256 → f.lines < 65536 →
      f.secondFace = none → f.late = false → f.merged = none →
      parseFinding (findingBytes f) f.test = f ∧ (findingBytes f).length = 19)
  ∧ ∀ v : Verdict, v.number < 2 ^ 32 → v.strand < 256 → 0 ≤ v.length → v.length < 2 ^ 31 →
      v.longitudinal < 256 → v.transverse < 256 → v.corner < 256 → v.minor < 256 →
      v.maxSeverity < 16 → v.coverage < 65536 → v.total < 65536 →
      parseVerdict (verdictBytes v) = v ∧ (verdictBytes v).length = 19

/-- A try that fails: lost arbitration, a first or second collision, and the third, which drops the
frame. That no taken copy is left after a try is log 9. -/
def Obligations.FailedTriesKeepOrDropTheFrame : Prop :=
  ∀ (dt : Nat) (s u : State) (f : TxFrame) (rest : List TxFrame), s.resetting = none →
    s.xcvr.send = .sending → s.xcvr.queue = f :: rest →
    u = { s.begin dt with
      xcvr := { s.xcvr with
        queue := rest, collisions := 0, taken := none, ending := false
        send := if rest = [] then .empty else .waiting }
      hz := { s.hz with inDelivery := none } } →
    exec (.arbitrationLost dt) s = .next { s.begin dt with
      xcvr := { s.xcvr with send := .waiting, taken := none, ending := false }
      hz := { s.hz with inDelivery := none } }
    ∧ (s.xcvr.collisions < 2 → exec (.collision dt) s = .next ({ s.begin dt with
        xcvr := { s.xcvr with
          send := .waiting, taken := none, ending := false
          collisions := s.xcvr.collisions + 1 }
        hz := { s.hz with inDelivery := none } }.count .txCollision))
    ∧ (2 ≤ s.xcvr.collisions → exec (.collision dt) s = .next (
        match f.body with
        | .finding _ _ => ((u.count .txCollision).count .txDrop).recompute
        | .verdict _ => ((u.count .txCollision).count .txDrop).count .verdictLost
        | _ => (u.count .txCollision).count .txDrop))

/-- A frame sent whole leaves the queue; a FINDING leaves the terms of the own clear-to; a HORIZON sets
the last sent clear-to and the timer and delivers the note it carried as a LOSS. That the command includes
its idle gap (log 7) and that clear-to and timer are set before the note is delivered (log 11) are the
model's choices. -/
def Obligations.FramesSentWholeAreReported : Prop :=
  ∀ (dt : Nat) (s u : State) (f : TxFrame) (rest : List TxFrame) (copy : TakenCopy),
    s.resetting = none → s.xcvr.send = .sending → s.xcvr.queue = f :: rest →
    s.xcvr.taken = some copy →
    u = { s.begin dt with
      xcvr := { s.xcvr with
        queue := rest, collisions := 0, taken := none, ending := false, line := .idle
        send := if rest = [] then .empty else .waiting
        buffer := [], beyond := 0, broken := false } } →
    (f.body ≠ .horizon → (∀ g n, f.body ≠ .finding g n) →
      exec (.frameSentWhole dt) s = .next u)
    ∧ (∀ g n, f.body = .finding g n → ∃ t, exec (.frameSentWhole dt) s = .next t
        ∧ t = { u with
            xcvr := { u.xcvr with queue := t.xcvr.queue, send := t.xcvr.send }
            hz := { s.hz with ownClearTo := t.hz.ownClearTo, horizon := t.hz.horizon }
            record := t.record, billet := t.billet, marker := t.marker, diag := t.diag }
        ∧ ∀ v, s.ctl.setup = some v →
            t.hz.ownClearTo = max s.hz.ownClearTo (u.clearToTerm v))
    ∧ ∀ v, f.body = .horizon → s.ctl.setup = some v →
        ∃ t, exec (.frameSentWhole dt) s = .next t
        ∧ t = { u with
            xcvr := { u.xcvr with queue := t.xcvr.queue, send := t.xcvr.send }
            hz := { s.hz with
              ownClearTo := t.hz.ownClearTo, horizon := t.hz.horizon, lastSent := copy.clearTo
              timer := some ((s.begin dt).nodeTime + v.horizonPeriod), inDelivery := none
              notes := if s.hz.inDelivery = none then s.hz.notes else s.hz.notes.tail }
            record := t.record, billet := t.billet, marker := t.marker, diag := t.diag }
        ∧ (s.hz.inDelivery = none → t.record = s.record ∧ t.hz.ownClearTo = s.hz.ownClearTo)
        ∧ ∀ n w, s.hz.inDelivery = some n →
            w = { u with hz := { s.hz with
              lastSent := copy.clearTo
              timer := some ((s.begin dt).nodeTime + v.horizonPeriod) } }.handEntry
                (.loss s.ownId n.start n.stop) →
            t = State.recompute
              { w with hz := { w.hz with notes := w.hz.notes.tail, inDelivery := none } }

/-- The line state: BUSY from the first dominant bit of a new frame, IDLE from the first idle gap after a
reset, the buffer emptied at both. Otherwise the two commands change nothing (the model's choice, log 3). -/
def Obligations.TheLineTurnsBusyAndIdle : Prop :=
  ∀ (dt : Nat) (s : State), s.resetting = none →
    (s.xcvr.line = .idle → exec (.newFrameBegins dt) s = .next { s.begin dt with
      xcvr := { s.xcvr with line := .busy, buffer := [], beyond := 0, broken := false } })
    ∧ (s.xcvr.line = .busy → exec (.newFrameBegins dt) s = .next (s.begin dt))
    ∧ (s.xcvr.firstGap = true → exec (.idleGapAfterReset dt) s = .next { s.begin dt with
        xcvr := { s.xcvr with
          line := .idle, firstGap := false, buffer := [], beyond := 0, broken := false } })
    ∧ (s.xcvr.firstGap = false → exec (.idleGapAfterReset dt) s = .next (s.begin dt))

/-- The checks of a received frame in their order, for every class: the first that fails decides, and a
frame of an undefined class passes none of them all. -/
def Obligations.FramesAreQualifiedInOrder : Prop :=
  ∀ (c : FrameClass) (dt : Nat) (s : State) (f : RxFrame) (h : FrameHead) (body : List Byte)
    (long checked : Prop), Hearing s → h = parseHead f.chars →
    body = (f.chars.drop 3).take h.length →
    (long ↔ f.broken = false ∧ 5 ≤ f.chars.length ∧ f.chars.length = h.length + 5) →
    (checked ↔ f.chars.drop (3 + h.length) = bytesBE 2 (crc (f.chars.take 3 ++ body)).toNat) →
    (¬long → exec (c.command dt f) s = .next ((s.frameOver dt).linkFailure .length .length))
    ∧ (long → ¬checked →
        exec (c.command dt f) s = .next ((s.frameOver dt).linkFailure .check .check))
    ∧ (long → checked → s.ctl.nodeId = some h.sender →
        exec (c.command dt f) s = .next ((s.frameOver dt).setFlag .idClash))
    ∧ (long → checked → s.ctl.nodeId ≠ some h.sender →
        (h.address = .individual ∧ s.ctl.nodeId ≠ some h.target
          ∨ h.address = .strandGroup ∧ h.target + 1 ≠ s.ctl.strand) →
        exec (c.command dt f) s = .next (s.frameOver dt))
    ∧ (long → checked → s.ctl.nodeId ≠ some h.sender →
        ¬(h.address = .individual ∧ s.ctl.nodeId ≠ some h.target
          ∨ h.address = .strandGroup ∧ h.target + 1 ≠ s.ctl.strand) →
        (formOk c h body = false →
          exec (c.command dt f) s = .next ((s.frameOver dt).linkFailure .form .form))
        ∧ (formOk c h body = true →
            (c = .setup ∧ s.ctl.mode ≠ .unconfigured
              ∨ c = .build ∧ (s.ctl.mode ≠ .inspecting ∨ s.corr.build = .busy) →
              exec (c.command dt f) s = .next ((s.frameOver dt).linkFailure .state .state))
            ∧ (¬(c = .setup ∧ s.ctl.mode ≠ .unconfigured
              ∨ c = .build ∧ (s.ctl.mode ≠ .inspecting ∨ s.corr.build = .busy)) →
              Passes s c f h body)))
    ∧ ¬Passes s .undefined f h body

/-- Frames that a mode discards change nothing: CUT, FINDING and VERDICT before SETUP, STATUS in every
mode, HORIZON and ANNOUNCE in UNSTRAPPED. -/
def Obligations.ModesDiscardFrames : Prop :=
  ∀ (dt : Nat) (c : FrameClass) (s : State) (f : RxFrame) (h : FrameHead) (body : List Byte),
    Passes s c f h body →
    (c = .status
      ∨ (c = .cut ∨ c = .finding ∨ c = .verdict)
        ∧ (s.ctl.mode = .unstrapped ∨ s.ctl.mode = .unconfigured)
      ∨ (c = .horizon ∨ c = .announce) ∧ s.ctl.mode = .unstrapped) →
    exec (c.command dt f) s = .next (s.frameOver dt)

/-! ### Frames from peers -/

/-- A CUT of a sender with an offset is placed and judged; without one it is UNPLACED. -/
def Obligations.CutFramesArePlaced : Prop :=
  ∀ (dt : Nat) (s : State) (v : Setup) (f : RxFrame) (h : FrameHead) (body : List Byte),
    Passes s .cut f h body → s.ctl.setup = some v → s.ctl.mode.configured = true →
    (∀ o, (s.peer h.sender).bind Peer.offset = some o →
      exec (.cutFrame dt f) s = .next (((s.frameOver dt).hear h.sender).takeCut v true
        (fieldAt body 0 4) (max (-(2 ^ 31)) (min (2 ^ 31 - 1) (positionAt body 4 + o)))))
    ∧ ((s.peer h.sender).bind Peer.offset = none →
      exec (.cutFrame dt f) s = .next (((s.frameOver dt).hear h.sender).count .unplaced))

/-- A FINDING is UNPLACED without an offset, else placed; missed ones before it are counted and handed on
as a LOSS, and an earlier id leaves the next expected one. That an UNPLACED one gives its face to no record
is the model's choice, log 36. -/
def Obligations.FindingFramesArePlacedAndCounted : Prop :=
  ∀ (dt : Nat) (s u : State) (f : RxFrame) (h : FrameHead) (body : List Byte) (g : Finding),
    Passes s .finding f h body → s.ctl.mode.configured = true → g = parseFinding body h.test →
    u = (s.frameOver dt).hear h.sender →
    ((s.peer h.sender).bind Peer.offset = none →
      exec (.findingFrame dt f) s = .next (u.count .unplaced))
    ∧ ∀ (p : Peer) (o : Int) (placed : Finding), u.peer h.sender = some p → p.offset = some o →
        placed = { g with start := max (-(2 ^ 31)) (min (2 ^ 31 - 1) (g.start + o))
                          stop := max (-(2 ^ 31)) (min (2 ^ 31 - 1) (g.stop + o)) } →
        ∀ (w : State) (d : Nat),
          w = (if p.face = none then u.testFace h.sender g.face else u) →
          (d : Int) = ((g.id : Int) - p.nextId.getD g.id) % 65536 →
          (d = 0 → exec (.findingFrame dt f) s
            = .next ((w.setPeer { p with
                face := some (p.face.getD g.face)
                nextId := some ((g.id + 1) % 65536) }).handEntry (.finding placed)))
          ∧ (1 ≤ d → d ≤ 32767 → ∀ k, p.clearTo = some k → exec (.findingFrame dt f) s
            = .next ((((w.setPeer { p with
                face := some (p.face.getD g.face)
                nextId := some ((g.id + 1) % 65536) }).countBy .missed d).handEntry
                  (.loss p.id (min k placed.start) (max k placed.start))).handEntry
                (.finding placed)))
          ∧ (32768 ≤ d → exec (.findingFrame dt f) s
            = .next ((w.setPeer { p with face := some (p.face.getD g.face) }).handEntry
                (.finding placed)))

/-- The record a HORIZON leaves of its sender, and the strand horizon after it; its five steps: SLIP, the
LOSS of its note, the LOSS of missed findings, the GAP opened or closed, the record and the horizon;
liveness alone before SETUP; PEER-OVERFLOW with a full table. Over which stretch findings are missed where
the record held no clear-to is log 23. -/
def Obligations.HorizonFramesRenewTheRecord : Prop :=
  ∀ (dt : Nat) (s u : State) (f : RxFrame) (h : FrameHead) (body : List Byte) (b : HorizonBody),
    Passes s .horizon f h body → b = parseHorizon body → s.ctl.mode ≠ .unstrapped →
    u = (s.frameOver dt).ensurePeer h.sender →
    (s.peer h.sender = none → 8 ≤ s.hz.peers.length →
      exec (.horizonFrame dt f) s = .next ((s.frameOver dt).setFlag .peerOverflow))
    ∧ (s.peer h.sender = none → s.hz.peers.length < 8 → u.peer h.sender = some {
        id := h.sender, face := none, state := .joining, lastHeard := (s.begin dt).nodeTime
        offset := none, clearTo := none, covering := false, nextId := none, openGap := none
        silenceDue := s.ctl.setup.map fun v => (s.begin dt).nodeTime + v.silenceTimeout })
    ∧ (∀ p, s.peer h.sender = some p → u.peer h.sender = some { p with
        lastHeard := (s.begin dt).nodeTime
        silenceDue := s.ctl.setup.map fun v => (s.begin dt).nodeTime + v.silenceTimeout })
    ∧ (s.ctl.mode = .unconfigured → exec (.horizonFrame dt f) s = .next u)
    ∧ ∀ (v : Setup) (p : Peer) (o c : Int), s.ctl.setup = some v → s.ctl.mode.configured = true →
        u.peer h.sender = some p → o = s.travel.position - b.stamp →
        c = max (-(2 ^ 31)) (min (2 ^ 31 - 1) (b.clearTo + o)) →
        ∃ t, exec (.horizonFrame dt f) s = .next t
          ∧ t = { u with
              xcvr := { u.xcvr with queue := t.xcvr.queue, send := t.xcvr.send }
              hz := { u.hz with peers := t.hz.peers, horizon := t.hz.horizon }
              record := t.record, billet := t.billet, marker := t.marker, diag := t.diag }
          ∧ t.peer h.sender = some { p with
              state := .live, offset := some o, clearTo := some c, covering := b.covering
              nextId := some (if b.lastValid then (b.lastId + 1) % 65536 else 0)
              openGap := match p.face with
                | none => p.openGap
                | some x => if b.covering then none
                    else p.openGap.orElse fun _ => some (x, p.clearTo.getD c) }
          ∧ (∀ i, i ≠ h.sender → t.peer i = u.peer i)
          ∧ t.hz.horizon = max s.hz.horizon
              ((t.hz.peers.filterMap fun q => if q.state = .live then q.clearTo else none).foldl
                min s.hz.ownClearTo)
          ∧ t.counter .slip = (match p.offset with
              | none => s.counter .slip
              | some k => if (v.slipTolerance : Int) < |o - k|
                  then min 65535 (s.counter .slip + 1) else s.counter .slip)
          ∧ ∀ (place : Int → Int) (d : Nat) (w₁ w₂ w₃ w₄ w₅ : State),
              (∀ x, place x = max (-(2 ^ 31)) (min (2 ^ 31 - 1) (x + o))) →
              (d : Int) = (match b.lastValid, p.nextId with
                | true, some n => ((b.lastId : Int) + 1 - n) % 65536
                | _, _ => 0) →
              w₁ = (if ∃ k ∈ p.offset, (v.slipTolerance : Int) < |o - k|
                then u.count .slip else u) →
              w₂ = (match b.note with
                | none => w₁
                | some (x, y) => w₁.handEntry (.loss h.sender (place x) (place y))) →
              w₃ = (if 1 ≤ d ∧ d ≤ 32767 then (w₂.countBy .missed d).handEntry
                  (.loss h.sender (min (p.clearTo.getD c) c) (max (p.clearTo.getD c) c))
                else w₂) →
              w₄ = (match p.face, b.covering, p.openGap with
                | some x, false, none => w₃.handEntry (.gap x h.sender (p.clearTo.getD c) none)
                | some _, true, some (x, start) => w₃.closeGap x h.sender start c
                | _, _, _ => w₃) →
              (∃ q, t.peer h.sender = some q ∧ w₅ = w₄.setPeer q) →
              t = if p.state = .live then w₅.recomputeHorizon v
                else (w₅.recomputeHorizon v).verdictDecision v

/-- A heard VERDICT of the own strand reports the billet of its number, or is compared with the one sent
for it. -/
def Obligations.VerdictFramesReportBillets : Prop :=
  ∀ (dt : Nat) (s u : State) (f : RxFrame) (h : FrameHead) (body : List Byte) (x : Verdict),
    Passes s .verdict f h body → s.ctl.mode.configured = true → x = parseVerdict body →
    u = (s.frameOver dt).hear h.sender →
    (x.strand ≠ s.ctl.strand ∨ (∀ b ∈ s.billet.billets, b.number ≠ x.number) →
      exec (.verdictFrame dt f) s = .next u)
    ∧ (x.strand = s.ctl.strand → BilletInv s → ∀ b ∈ s.billet.billets, b.number = x.number →
        (b.state ≠ .reported → exec (.verdictFrame dt f) s = .next { u with billet := { s.billet with
          billets := s.billet.billets.map fun q =>
            if q.number = x.number then { q with state := .reported } else q } })
        ∧ (b.state = .reported → b.verdictSent = false → exec (.verdictFrame dt f) s = .next u)
        ∧ ∀ y, b.state = .reported → b.verdictSent = true → b.sent = some y →
            exec (.verdictFrame dt f) s = .next (
              if x.grade = y.grade ∧ x.longitudinal = y.longitudinal ∧ x.transverse = y.transverse
                ∧ x.corner = y.corner ∧ x.minor = y.minor ∧ x.total = y.total
                ∧ x.length = y.length
              then u else u.setFlag .verdictMismatch))

/-- An ANNOUNCE of another strand restarts the silence timer alone; one of the own strand makes a record,
or returns a held one to JOINING with its face; the face is tested, and a full table overflows. That it is so in
UNCONFIGURED too is log 16. -/
def Obligations.AnnounceFramesRestartTheRecord : Prop :=
  ∀ (dt : Nat) (s u : State) (f : RxFrame) (h : FrameHead) (body : List Byte) (face : Nat),
    Passes s .announce f h body → s.ctl.mode ≠ .unstrapped → face = fieldAt body 3 1 →
    u = (s.frameOver dt).hear h.sender →
    (fieldAt body 2 1 ≠ s.ctl.strand → exec (.announceFrame dt f) s = .next u)
    ∧ (fieldAt body 2 1 = s.ctl.strand → s.peer h.sender = none →
        exec (.announceFrame dt f) s = .next (
          if s.hz.peers.length < 8 then (u.testFace h.sender face).addPeer {
            id := h.sender, face := some face, state := .joining
            lastHeard := (s.begin dt).nodeTime, offset := none, clearTo := none, covering := false
            nextId := none, openGap := none
            silenceDue := s.ctl.setup.map fun v => (s.begin dt).nodeTime + v.silenceTimeout }
          else u.setFlag .peerOverflow))
    ∧ (∀ p, fieldAt body 2 1 = s.ctl.strand → u.peer h.sender = some p → p.state ≠ .live →
        exec (.announceFrame dt f) s = .next ((u.testFace h.sender face).setPeer { p with
          face := some face, state := .joining, offset := none, clearTo := none
          covering := false, nextId := none }))
    ∧ ∀ p, fieldAt body 2 1 = s.ctl.strand → u.peer h.sender = some p → p.state = .live →
        ∃ t, exec (.announceFrame dt f) s = .next t
          ∧ t = { u with
              xcvr := { u.xcvr with queue := t.xcvr.queue, send := t.xcvr.send }
              hz := { u.hz with peers := t.hz.peers, horizon := t.hz.horizon }
              record := t.record, billet := t.billet, marker := t.marker, diag := t.diag }
          ∧ t.peer h.sender = some { p with
              face := some face, state := .joining, offset := none, clearTo := none
              covering := false, nextId := none
              openGap := match p.face, p.clearTo with
                | some x, some k => if p.covering then some (x, k) else p.openGap
                | _, _ => p.openGap }
          ∧ (t.flag .faceConflict = true ↔ s.flag .faceConflict = true ∨ s.ctl.face = face
              ∨ ∃ q ∈ s.hz.peers, q.id ≠ h.sender ∧ q.face = some face)

/-- Silence: a frame heard restarts the timer; an expiry makes the record SILENT and not covering, and a
LIVE covering one leaves a GAP at its clear-to. Before its time an expiry changes nothing (the model's
choice, log 3). -/
def Obligations.SilenceEndsTheRecord : Prop :=
  (∀ (s : State) (id : Nat) (p : Peer), s.peer id = some p →
    (s.hear id).peer id = some { p with
      lastHeard := s.nodeTime
      silenceDue := s.ctl.setup.map fun v => s.nodeTime + v.silenceTimeout }
    ∧ (∀ j, j ≠ id → (s.hear id).peer j = s.peer j))
  ∧ ∀ (dt id due : Nat) (s : State) (p : Peer), s.resetting = none → s.peer id = some p →
      p.silenceDue = some due →
      ((s.begin dt).nodeTime < due → exec (.silenceTimerExpiry dt id) s = .next (s.begin dt))
      ∧ (due ≤ (s.begin dt).nodeTime → p.state ≠ .live →
          exec (.silenceTimerExpiry dt id) s = .next ((s.begin dt).setPeer { p with
            state := .silent, covering := false, silenceDue := none }))
      ∧ (due ≤ (s.begin dt).nodeTime → p.state = .live →
          ∃ t, exec (.silenceTimerExpiry dt id) s = .next t
            ∧ t = { s.begin dt with
                xcvr := { s.xcvr with queue := t.xcvr.queue, send := t.xcvr.send }
                hz := { s.hz with peers := t.hz.peers, horizon := t.hz.horizon }
                record := t.record, billet := t.billet, marker := t.marker, diag := t.diag }
            ∧ t.peer id = some { p with
                state := .silent, covering := false, silenceDue := none
                openGap := match p.face, p.clearTo with
                  | some x, some k => if p.covering then some (x, k) else p.openGap
                  | _, _ => p.openGap }
            ∧ s.hz.horizon ≤ t.hz.horizon)

/-! ### Plant stations and the node's own timers -/

/-- SETUP is accepted: its values are held, the node is in REFERENCING, and the blocks take it up. -/
def Obligations.SetupIsTakenUp : Prop :=
  ∀ (dt : Nat) (s : State) (f : RxFrame) (h : FrameHead) (body : List Byte) (v : Setup),
    Passes s .setup f h body → v = parseSetup body → s.head.reference = none →
    ∃ t, exec (.setupFrame dt f) s = .next t
      ∧ t = { s.frameOver dt with
          ctl := { s.ctl with
            setup := some v, mode := .referencing, announceTimer := none, covering := false }
          travel := { s.travel with
            position := positionOf (some v) s.travel.count
            highWater := max s.travel.highWater (positionOf (some v) s.travel.count)
            strand := if s.pins.strand then .asserted else .clear
            dropout := none
            gate := if s.pins.gate && v.gateUsed then .shut else .opened
            cutCounter := none, lastCut := none }
          head := { s.head with
            tag := s.head.tag + 1, line := none, probe := none, probeTimer := none
            reference := some { scope := .all, tag := s.head.tag, taken := 0
                                due := (s.begin dt).nodeTime + 20 }
            sent := [.referenceRequest s.head.tag .all] }
          sched := { s.sched with
            tickTimer := some ((s.begin dt).nodeTime + v.referenceInterval * 1000 / 8)
            allRunning := true, accum := List.replicate 2048 0 }
          corr := { s.corr with
            target := none, lines := 0, sums := List.replicate 2048 0
            samples := List.replicate 2048 0 }
          xcvr := { (s.frameOver dt).xcvr with queue := t.xcvr.queue, send := t.xcvr.send }
          hz := { s.hz with
            peers := t.hz.peers, ownClearTo := t.hz.ownClearTo, horizon := t.hz.horizon
            ownGap := t.hz.ownGap, lastSent := none
            timer := some ((s.begin dt).nodeTime + v.horizonPeriod) }
          record := t.record, billet := t.billet
          marker := t.marker, diag := t.diag }
      ∧ v.inRange = true
      ∧ ((∀ p ∈ s.hz.peers, p.state ≠ .live) →
          t.hz.horizon = max s.hz.horizon t.hz.ownClearTo)
      ∧ (s.tracer.awaiting = [] → t.hz.ownGap = some (floorTo v.linePitch t.travel.highWater)
          ∧ (s.traceFirsts = [] → s.hz.notes = [] →
              s.xcvr.queue.filterMap TxFrame.findingStart = [] →
              t.hz.ownClearTo = max s.hz.ownClearTo (floorTo v.linePitch t.travel.highWater)))
      ∧ (s.billet.billets = [] → s.record.pending = [] → s.record.overflow = none →
          s.record.entries = [] → s.xcvr.queue.length < 16 →
          t.billet.floor = some t.hz.horizon
          ∧ t.marker = { s.marker with active := none, output := .off }
          ∧ t.xcvr.queue = s.xcvr.queue
            ++ [toAll false (.announce s.ownId s.ctl.strand s.ctl.face s.ctl.cause .referencing)])

/-- BUILD starts a build afresh; STATUS-REQ is answered, and with its clear bit clears the flags unless
the reply was refused. That neither counts as hearing its sender is log 18. -/
def Obligations.StationFramesAreAnswered : Prop :=
  ∀ (dt : Nat) (s u : State) (f : RxFrame) (h : FrameHead) (body : List Byte),
    (Passes s .build f h body → exec (.buildFrame dt f) s = .next { s.frameOver dt with
      corr := { s.corr with
        build := .busy, target := some (fieldAt body 0 1), lines := 0
        sums := List.replicate 2048 0, samples := List.replicate 2048 0 } })
    ∧ (Passes s .statusReq f h body → s.ctl.mode ≠ .unstrapped →
        u = (s.frameOver dt).handFrame { address := .individual, target := h.sender, test := false
                                         body := .status (s.frameOver dt).statusBytes } →
        exec (.statusReqFrame dt f) s = .next (
          if fieldAt body 0 1 = 1 ∧ s.xcvr.queue.length < 16 then
            { u with diag := { u.diag with flags := Vector.replicate 11 false } }
          else u)
        ∧ (s.frameOver dt).statusBytes.length = 60)

/-- The horizon timer hands a HORIZON frame, the announce timer an ANNOUNCE unless one still waits; each
runs on by its period from its due time (log 33). Before it an expiry changes nothing (the model's choice,
log 3). -/
def Obligations.PeriodicFramesAreHanded : Prop :=
  ∀ (dt due : Nat) (s : State), s.resetting = none →
    (∀ v, s.hz.timer = some due → s.ctl.setup = some v →
      ((s.begin dt).nodeTime < due → exec (.horizonTimerExpiry dt) s = .next (s.begin dt))
      ∧ (due ≤ (s.begin dt).nodeTime → exec (.horizonTimerExpiry dt) s = .next
          ({ s.begin dt with hz := { s.hz with timer := some (due + v.horizonPeriod) } }.handFrame
            { address := .strandGroup, target := s.ctl.strand - 1, test := false
              body := .horizon })))
    ∧ (s.ctl.announceTimer = some due →
        ((s.begin dt).nodeTime < due → exec (.announceTimerExpiry dt) s = .next (s.begin dt))
        ∧ (due ≤ (s.begin dt).nodeTime → (∃ f ∈ s.xcvr.queue, f.isAnnounce = true) →
            exec (.announceTimerExpiry dt) s = .next { s.begin dt with
              ctl := { s.ctl with announceTimer := some (due + 1000) } })
        ∧ (due ≤ (s.begin dt).nodeTime → (∀ f ∈ s.xcvr.queue, f.isAnnounce = false) →
            exec (.announceTimerExpiry dt) s = .next ({ s.begin dt with
              ctl := { s.ctl with announceTimer := some (due + 1000) } }.handFrame
                (toAll false
                  (.announce s.ownId s.ctl.strand s.ctl.face s.ctl.cause s.ctl.mode)))))
    ∧ (∀ q : List TxFrame, s.xcvr.queue = q → ∀ f : TxFrame,
        (f.body = .horizon → (∃ g ∈ q, g.body = .horizon) → s.handFrame f = s)
        ∧ (f.body ≠ .horizon ∨ (∀ g ∈ q, g.body ≠ .horizon) →
            (q.length < 16 → s.handFrame f = { s with xcvr := { s.xcvr with
              queue := q ++ [f]
              send := if s.xcvr.send = .empty then .waiting else s.xcvr.send } })
            ∧ (16 ≤ q.length → s.handFrame f = s.count .txOverrun)))

/-- A reset begins: the marker output is OFF, a try is cut off, the head's exchanges are lost, and POWER
stands over PIN. It ends: every block at its reset values, the straps read, a pin reset keeping the
diagnostics. What the beginning sets is log 27; that the lines awaiting the tracer are lost without a note
(log 37) and that outside a reset RESET_END changes nothing (log 3) are the model's choices. -/
def Obligations.ResetsBeginAndEnd : Prop :=
  (∀ (dt : Nat) (s : State) (c : Instr) (kind : ResetCause),
    c = .powerOnReset dt ∧ kind = .power ∨ c = .pinReset dt ∧ kind = .pin →
    exec c s = .next { s.begin dt with
      resetting := some (if s.resetting = some .power then .power else kind)
      head := { s.head with line := none, reference := none, probe := none, sent := [] }
      xcvr := { s.xcvr with
        taken := none, ending := false
        send := if s.xcvr.send = .sending then .waiting else s.xcvr.send }
      hz := { s.hz with inDelivery := none }
      marker := { s.marker with output := .off } })
  ∧ ∀ (dt : Nat) (s : State) (p : Straps) (id : Nat),
    id = 9 * StrapLevel.digit p.id2 + 3 * StrapLevel.digit p.id1 + StrapLevel.digit p.id0 →
    (s.resetting = none → exec (.resetEnd dt p) s = .next (s.begin dt))
    ∧ ∀ kind, s.resetting = some kind → ∃ t, exec (.resetEnd dt p) s = .next t
        ∧ t = { State.reset with
            pending := s.pending, freeDraws := s.freeDraws, pins := s.pins, ctl := t.ctl
            travel := { State.reset.travel with
              phase := (s.pins.encA, s.pins.encB), cutLevel := s.pins.cut
              strand := if s.pins.strand then .asserted else .clear }
            xcvr := { State.reset.xcvr with queue := t.xcvr.queue, send := t.xcvr.send }
            diag := if kind = .pin then s.diag else State.reset.diag }
        ∧ t.ctl.strand = 4 * p.strand2.toNat + 2 * p.strand1.toNat + p.strand0.toNat + 1
        ∧ t.ctl.face = 2 * p.face1.toNat + p.face0.toNat
        ∧ t.ctl.cause = kind ∧ t.ctl.setup = none ∧ t.ctl.covering = false
        ∧ (id = 0 → t.ctl.mode = .unstrapped ∧ t.ctl.nodeId = none ∧ t.ctl.announceTimer = none
            ∧ t.xcvr.queue = [] ∧ t.xcvr.send = .empty)
        ∧ (1 ≤ id → t.ctl.mode = .unconfigured ∧ t.ctl.nodeId = some id
            ∧ t.ctl.announceTimer = some 1000 ∧ t.xcvr.send = .waiting
            ∧ t.xcvr.queue = [toAll false
                (.announce id t.ctl.strand t.ctl.face kind .unconfigured)])

/-! ### Record, billets, marks -/

/-- Which entries lie within a billet, the pending list not being read (R163); the verdict computed from
them: counts, coverage, flags and grade (R164 to R167); and what the verdict decision makes of it: without
the verdict role nothing, with it the VERDICT of a DUE billet is queued (R160, R161, R168; R88 where the
queue is full). -/
def Obligations.EntriesLieWithinABillet : Prop :=
  (∀ (head tail : Int) (f : Finding),
    (Entry.finding f).liesWithin head tail = true ↔ f.start < tail ∧ head ≤ f.stop)
  ∧ (∀ (head tail a b : Int) (o : Nat),
      (Entry.loss o a b).liesWithin head tail = true ↔ a < tail ∧ head ≤ b)
  ∧ (∀ (head tail a b : Int) (o x : Nat), head < tail → a ≤ b →
      ((Entry.gap x o a (some b)).liesWithin head tail = true ↔ a < tail ∧ head < b ∧ a ≠ b))
  ∧ (∀ (head tail a : Int) (o x : Nat),
      (Entry.gap x o a none).liesWithin head tail = true ↔ a < tail)
  ∧ (∀ (s : State) (v : Setup) (b : Billet) (tail : Int) (pending : List Entry),
      { s with record := { s.record with pending := pending } }.verdictOf v b tail
        = s.verdictOf v b tail)
  ∧ (∀ (s : State) (v : Setup) (b : Billet) (tail : Int) (inside : List Entry) (fs : List Finding)
      (faces : List Nat) (gap : Nat → Int) (x : Verdict), RecordInv s → b.head < tail →
      faces = (List.range 4).filter v.faceMask.getLsbD → faces ≠ [] →
      inside = s.record.entries.filter (Entry.liesWithin b.head tail) →
      fs = (inside.filterMap fun e => match e with | .finding f => some f | _ => none) →
      (∀ face, (s.ctl.face = face ∨ ∃ p ∈ s.hz.peers, p.face = some face) →
        gap face = Set.ncard { q : Int | b.head ≤ q ∧ q < tail ∧ ∃ subject start stop,
          Entry.gap face subject start stop ∈ inside ∧ start ≤ q ∧ ∀ y ∈ stop, q < y }) →
      (∀ face, s.ctl.face ≠ face → (∀ p ∈ s.hz.peers, p.face ≠ some face) →
        gap face = tail - b.head) →
      x = s.verdictOf v b tail →
      x.number = b.number ∧ x.strand = s.ctl.strand ∧ x.length = tail - b.head
      ∧ x.longitudinal = min 255 (fs.countP fun f => f.cls == .longitudinal)
      ∧ x.transverse = min 255 (fs.countP fun f => f.cls == .transverse)
      ∧ x.corner = min 255 (fs.countP fun f => f.cls == .corner)
      ∧ x.minor = min 255 (fs.countP fun f => f.cls == .minor)
      ∧ x.total = min 65535 fs.length
      ∧ (∀ f ∈ fs, f.severity ≤ x.maxSeverity)
      ∧ (x.maxSeverity = 0 ∨ ∃ f ∈ fs, f.severity = x.maxSeverity)
      ∧ (x.coverage : Int) = 1000 * (faces.length * (tail - b.head) - (faces.map gap).sum)
          / (faces.length * (tail - b.head))
      ∧ x.coverage ≤ 1000
      ∧ (x.incomplete = true ↔ ∃ origin start stop, Entry.loss origin start stop ∈ inside)
      ∧ x.truncated = b.truncated
      ∧ (x.unverified = true ↔ ∃ f ∈ fs, f.flags.unverified = true)
      ∧ (x.late = true ↔ ∃ f ∈ fs, f.late = true)
      ∧ (x.test = true ↔ ∃ f ∈ fs, f.test = true)
      ∧ ((∃ f ∈ fs, v.rejectSeverity ≤ f.severity) → x.grade = .reject)
      ∧ ((∀ f ∈ fs, f.severity < v.rejectSeverity) →
          ((x.coverage < v.coverageMinimum ∨ x.incomplete = true ∨ x.truncated = true
            ∨ x.unverified = true ∨ x.late = true) → x.grade = .review)
          ∧ (v.coverageMinimum ≤ x.coverage → x.incomplete = false → x.truncated = false →
              x.unverified = false → x.late = false → x.grade = .accept)))
  ∧ ∀ (s : State) (v : Setup),
      ((∃ p ∈ s.hz.peers, p.state = .live ∧ p.id < s.ownId) → s.verdictDecision v = s)
      ∧ ((∀ p ∈ s.hz.peers, p.state = .live → s.ownId ≤ p.id) →
          ((∀ b ∈ s.billet.billets, b.state ≠ .due) → s.verdictDecision v = s)
          ∧ ∀ (pre post : List Billet) (b : Billet) (tail : Int) (x : Verdict),
              s.billet.billets = pre ++ b :: post → b.state = .due → b.tail = some tail →
              (∀ c ∈ pre ++ post, c.state ≠ .due) → x = s.verdictOf v b tail →
              (s.xcvr.queue.length < 16 → s.verdictDecision v
                = { s.handFrame (toAll x.test (.verdict x)) with billet := { s.billet with
                    billets := pre ++ { b with
                      state := .reported, verdictSent := true, sent := some x } :: post } })
              ∧ (16 ≤ s.xcvr.queue.length → s.verdictDecision v = s.count .txOverrun))

/-- Where the record unit puts an entry: a second copy is discarded; from the strand horizon on it waits
in the pending list, or widens the overflow range by as much as it must; below it enters the record at
once, counted LATE, a FINDING with the late mark and on to the marker unit, and the eviction test follows.
And how a GAP is closed. -/
def Obligations.EntriesAreHandedToTheirPlace : Prop :=
  (∀ (s : State) (e : Entry), RecordInv s →
    (s.isSecondCopy e = true →
      s.handEntry e = if e.start < s.hz.horizon then s.count .late else s)
    ∧ (s.isSecondCopy e = false → s.hz.horizon ≤ e.start →
        (s.record.pending.length < 64 → ∃ q, s.handEntry e
            = { s with record := { s.record with pending := q } }
          ∧ InOrder q ∧ q.Perm (e :: s.record.pending) ∧ s.record.pending.Sublist q)
        ∧ (64 ≤ s.record.pending.length → s.handEntry e
            = { s with record := { s.record with overflow := some (match s.record.overflow with
                | none => (e.start, e.stop.getD e.start)
                | some (a, b) => (min a e.start, max b (e.stop.getD e.start))) } }.count
                  .pendingOverflow))
    ∧ (s.isSecondCopy e = false → e.start < s.hz.horizon →
        (s.handEntry e).record.pending = s.record.pending
        ∧ (s.handEntry e).record.overflow = s.record.overflow
        ∧ (s.handEntry e).counter .late = min 65535 (s.counter .late + 1)
        ∧ (s.handEntry e).counter .recordEvict = (if s.record.entries.length < 256
            then s.counter .recordEvict else min 65535 (s.counter .recordEvict + 1))
        ∧ ∀ (held : List Entry) (g : Entry),
            held = (if s.record.entries.length < 256 then s.record.entries
              else s.record.entries.tail) →
            g = (match e with
              | .finding f => .finding { f with late := true }
              | _ => e) →
            ∃ q, InOrder q ∧ q.Perm (g :: held)
              ∧ (s.handEntry e).record.entries = (match s.billet.billets.head? with
                  | none => q
                  | some b => q.filter fun x => b.head ≤ x.stop.getD x.start)
              ∧ ∀ f v, e = .finding f → s.record.entries.length < 256 → s.billet.billets = [] →
                  s.ctl.setup = some v →
                  (f.face ≠ s.ctl.face ∧ f.secondFace ≠ some s.ctl.face
                      ∨ f.severity < v.markSeverity →
                    s.handEntry e
                      = { s with record := { s.record with entries := q } }.count .late)
                  ∧ ((f.face = s.ctl.face ∨ f.secondFace = some s.ctl.face) →
                      v.markSeverity ≤ f.severity → s.handEntry e
                      = ({ s with record := { s.record with entries := q } }.count
                          .late).markFinding v { f with late := true })))
  ∧ ∀ (s : State) (face subject : Nat) (start stop : Int) (opened : Entry) (pre post : List Entry),
      opened = .gap face subject start none → opened ∉ pre →
      (s.record.pending = pre ++ opened :: post → s.closeGap face subject start stop
        = { s with record := { s.record with
            pending := pre ++ .gap face subject start (some (max start stop)) :: post } })
      ∧ (opened ∉ s.record.pending → s.record.entries = pre ++ opened :: post →
          s.closeGap face subject start stop = { s with record := { s.record with
            entries := pre ++ .gap face subject start (some (max start stop)) :: post } })
      ∧ (opened ∉ s.record.pending → opened ∉ s.record.entries →
          s.closeGap face subject start stop = s)

/-- A rise of the strand horizon commits exactly what falls below it, in order, at the newest end of the
record: with room, no billet and no finding among it, nothing else changes. -/
def Obligations.RisesCommitInOrder : Prop :=
  ∀ (s : State) (v : Setup) (h : Int), RecordInv s → s.hz.horizon ≤ h →
    (s.commitBelow v h).record.pending = s.record.pending.filter (fun e => h ≤ e.start)
    ∧ (∀ r ∈ (s.commitBelow v h).record.overflow, h ≤ r.1 ∧ s.record.overflow = some r)
    ∧ InOrder (s.commitBelow v h).record.entries
    ∧ (∀ e ∈ (s.commitBelow v h).record.entries, e.start < h)
    ∧ (s.billet.billets = [] → s.record.overflow = none →
        (∀ e ∈ s.record.pending, ∀ f, e ≠ .finding f) →
        s.record.entries.length + s.record.pending.length ≤ 256 →
        s.commitBelow v h = { s with record := { s.record with
          pending := s.record.pending.filter fun e => h ≤ e.start
          entries := s.record.entries ++ s.record.pending.filter fun e => e.start < h } })

/-- The start test, made after a forward transition from the position `q` or with no transition: a head
that the position has passed goes with MARK-LATE, one not reached, or met in reverse, waits, any other
starts, on time if `q` lay below it and else with MARK-PARTIAL, or is skipped with MARK-SKIPPED where four
have started within the mark window; after a removal the test is made again. The output follows the
position while a mark is active. -/
def Obligations.MarksStartAndFollowThePosition : Prop :=
  (∀ (s : State) (v : Setup) (m : Mark) (rest : List Mark) (before : Option Int),
    s.ctl.setup = some v → s.marker.active = none → s.marker.queue = m :: rest →
    (m.stop < s.travel.position → s.startTest before
      = ({ s with marker := { s.marker with queue := rest } }.count .markLate).startTest before)
    ∧ (s.travel.position ≤ m.stop →
        s.travel.position < m.start ∨ s.marker.direction = .reverse → s.startTest before = s)
    ∧ (s.travel.position ≤ m.stop → m.start ≤ s.travel.position → s.marker.direction = .forward →
        (∀ t : State, s.marker.history.length < 4
            ∨ (∃ x ∈ s.marker.history.head?, x + v.markWindow < s.nodeTime) →
          t = { s with marker := { s.marker with
            queue := rest, active := some m, output := .on
            history := (if s.marker.history.length < 4 then s.marker.history
              else s.marker.history.tail) ++ [s.nodeTime] } } →
          (∀ q, before = some q → q < m.start → s.startTest before = t)
          ∧ ((∀ q, before = some q → m.start ≤ q) → s.startTest before = t.count .markPartial))
        ∧ (4 ≤ s.marker.history.length →
            (∃ x ∈ s.marker.history.head?, s.nodeTime ≤ x + v.markWindow) →
            s.startTest before = ({ s with marker := { s.marker with queue := rest } }.count
              .markSkipped).startTest before)))
  ∧ (∀ (s : State) (before : Option Int),
      s.marker.queue = [] ∨ s.marker.active.isSome = true → s.startTest before = s)
  ∧ (∀ (s : State) (dir : Direction) (q : Int),
      s.markMove dir q = { s with marker := s.marker.follow dir s.travel.position }.startTest
        (if dir = Direction.forward then some q else none))
  ∧ (∀ (m : MarkerUnit) (dir : Direction) (p : Int), m.active = none →
      m.follow dir p = { m with direction := dir })
  ∧ ∀ (m : MarkerUnit) (a : Mark) (p : Int), m.active = some a →
      m.follow .reverse p = { m with direction := .reverse, output := .off }
      ∧ (a.stop < p → m.follow .forward p
          = { m with direction := .forward, output := .off, active := none })
      ∧ (p ≤ a.stop → m.follow .forward p
          = { m with direction := .forward, output := if a.start ≤ p then .on else .off })

/-! ### Invariants that every step keeps -/

/-- No list, table or count grows beyond its limit. -/
def Obligations.CapacitiesAreKept : Prop :=
  ∀ s t : State, CapacityInv s → step s = .next t → CapacityInv t

/-- The pending list holds what starts from the strand horizon on, the record what starts below it, both
in order. -/
def Obligations.TheRecordStaysInOrder : Prop :=
  ∀ s t : State, RecordInv s → step s = .next t → RecordInv t

/-- The strand horizon stays at or below the own clear-to, and neither falls but at the end of a reset. -/
def Obligations.TheHorizonsOnlyRise : Prop :=
  ∀ s t : State, HorizonInv s → step s = .next t →
    HorizonInv t ∧ (s.endsReset = false →
      s.hz.ownClearTo ≤ t.hz.ownClearTo ∧ s.hz.horizon ≤ t.hz.horizon)

/-- The send state, the queue, the taken copy and the note in delivery go on agreeing. -/
def Obligations.TheSendStateIsKept : Prop :=
  ∀ s t : State, SendInv s → step s = .next t → SendInv t

/-- Mode, covering, the own GAP, the sensor port and the blind segment go on agreeing. -/
def Obligations.ModeAndCoveringAreKept : Prop :=
  ∀ s t : State, ModesInv s → step s = .next t → ModesInv t

/-- Position, high-water and last line position go on agreeing with the count, and neither of the last
two falls but at the end of a reset. -/
def Obligations.TravelIsKept : Prop :=
  ∀ s t : State, ModesInv s → TravelInv s → step s = .next t →
    TravelInv t ∧ (s.endsReset = false →
      s.travel.highWater ≤ t.travel.highWater ∧ s.travel.lastLine ≤ t.travel.lastLine)

/-- Counters stay within 65535 and gains within 256 to 4095; the corrector's tables keep a value for each
column, the accumulators one for each pixel of the scope, and a BUSY build stays short of its target. -/
def Obligations.CountersAndGainsStayInRange : Prop :=
  (∀ s t : State, CounterInv s → step s = .next t → CounterInv t)
  ∧ (∀ s t : State, GainInv s → step s = .next t → GainInv t)
  ∧ ∀ s t : State, ModesInv s → CorrectorInv s → step s = .next t → CorrectorInv t

/-- No open trace outlives the gap lines or the lines at which it splits, and every last span and every
run that awaits the tracer is a stretch of columns. -/
def Obligations.TheTraceTableIsKept : Prop :=
  ∀ s t : State, ModesInv s → TraceInv s → step s = .next t → TraceInv t

/-- The output is ON only under an active mark, and the marks that wait stand in order; heads and numbers
of the billets rise, and only the newest lacks a tail. -/
def Obligations.BilletsAndMarksAreKept : Prop :=
  (∀ s t : State, MarkerInv s → step s = .next t → MarkerInv t)
  ∧ ∀ s t : State, BilletInv s → step s = .next t → BilletInv t
end

