-- ==== Sys2Proof/Laws/State.lean ====
section
/-! SUPPORT. What each plain update of the state leaves as it was, one lemma for each block: by these a
proof never unfolds a record update. -/

namespace Sys2Proof.Machine

/-! ### begin -/

@[simp] theorem State.begin_pending (s : State) (dt : Nat) :
    (s.begin dt).pending = s.pending := rfl
@[simp] theorem State.begin_resetting (s : State) (dt : Nat) :
    (s.begin dt).resetting = s.resetting := rfl
@[simp] theorem State.begin_freeDraws (s : State) (dt : Nat) :
    (s.begin dt).freeDraws = s.freeDraws := rfl
@[simp] theorem State.begin_pins (s : State) (dt : Nat) :
    (s.begin dt).pins = s.pins := rfl
@[simp] theorem State.begin_ctl (s : State) (dt : Nat) :
    (s.begin dt).ctl = s.ctl := rfl
@[simp] theorem State.begin_travel (s : State) (dt : Nat) :
    (s.begin dt).travel = s.travel := rfl
@[simp] theorem State.begin_sched (s : State) (dt : Nat) :
    (s.begin dt).sched = s.sched := rfl
@[simp] theorem State.begin_corr (s : State) (dt : Nat) :
    (s.begin dt).corr = s.corr := rfl
@[simp] theorem State.begin_tracer (s : State) (dt : Nat) :
    (s.begin dt).tracer = s.tracer := rfl
@[simp] theorem State.begin_xcvr (s : State) (dt : Nat) :
    (s.begin dt).xcvr = s.xcvr := rfl
@[simp] theorem State.begin_hz (s : State) (dt : Nat) :
    (s.begin dt).hz = s.hz := rfl
@[simp] theorem State.begin_record (s : State) (dt : Nat) :
    (s.begin dt).record = s.record := rfl
@[simp] theorem State.begin_billet (s : State) (dt : Nat) :
    (s.begin dt).billet = s.billet := rfl
@[simp] theorem State.begin_marker (s : State) (dt : Nat) :
    (s.begin dt).marker = s.marker := rfl
@[simp] theorem State.begin_diag (s : State) (dt : Nat) :
    (s.begin dt).diag = s.diag := rfl

/-! ### setFlag -/

@[simp] theorem State.setFlag_pending (s : State) (f : DiagFlag) :
    (s.setFlag f).pending = s.pending := rfl
@[simp] theorem State.setFlag_nodeTime (s : State) (f : DiagFlag) :
    (s.setFlag f).nodeTime = s.nodeTime := rfl
@[simp] theorem State.setFlag_resetting (s : State) (f : DiagFlag) :
    (s.setFlag f).resetting = s.resetting := rfl
@[simp] theorem State.setFlag_freeDraws (s : State) (f : DiagFlag) :
    (s.setFlag f).freeDraws = s.freeDraws := rfl
@[simp] theorem State.setFlag_pins (s : State) (f : DiagFlag) :
    (s.setFlag f).pins = s.pins := rfl
@[simp] theorem State.setFlag_ctl (s : State) (f : DiagFlag) :
    (s.setFlag f).ctl = s.ctl := rfl
@[simp] theorem State.setFlag_travel (s : State) (f : DiagFlag) :
    (s.setFlag f).travel = s.travel := rfl
@[simp] theorem State.setFlag_head (s : State) (f : DiagFlag) :
    (s.setFlag f).head = s.head := rfl
@[simp] theorem State.setFlag_sched (s : State) (f : DiagFlag) :
    (s.setFlag f).sched = s.sched := rfl
@[simp] theorem State.setFlag_corr (s : State) (f : DiagFlag) :
    (s.setFlag f).corr = s.corr := rfl
@[simp] theorem State.setFlag_tracer (s : State) (f : DiagFlag) :
    (s.setFlag f).tracer = s.tracer := rfl
@[simp] theorem State.setFlag_xcvr (s : State) (f : DiagFlag) :
    (s.setFlag f).xcvr = s.xcvr := rfl
@[simp] theorem State.setFlag_hz (s : State) (f : DiagFlag) :
    (s.setFlag f).hz = s.hz := rfl
@[simp] theorem State.setFlag_record (s : State) (f : DiagFlag) :
    (s.setFlag f).record = s.record := rfl
@[simp] theorem State.setFlag_billet (s : State) (f : DiagFlag) :
    (s.setFlag f).billet = s.billet := rfl
@[simp] theorem State.setFlag_marker (s : State) (f : DiagFlag) :
    (s.setFlag f).marker = s.marker := rfl

/-! ### countBy -/

@[simp] theorem State.countBy_pending (s : State) (c : Counter) (n : Nat) :
    (s.countBy c n).pending = s.pending := rfl
@[simp] theorem State.countBy_nodeTime (s : State) (c : Counter) (n : Nat) :
    (s.countBy c n).nodeTime = s.nodeTime := rfl
@[simp] theorem State.countBy_resetting (s : State) (c : Counter) (n : Nat) :
    (s.countBy c n).resetting = s.resetting := rfl
@[simp] theorem State.countBy_freeDraws (s : State) (c : Counter) (n : Nat) :
    (s.countBy c n).freeDraws = s.freeDraws := rfl
@[simp] theorem State.countBy_pins (s : State) (c : Counter) (n : Nat) :
    (s.countBy c n).pins = s.pins := rfl
@[simp] theorem State.countBy_ctl (s : State) (c : Counter) (n : Nat) :
    (s.countBy c n).ctl = s.ctl := rfl
@[simp] theorem State.countBy_travel (s : State) (c : Counter) (n : Nat) :
    (s.countBy c n).travel = s.travel := rfl
@[simp] theorem State.countBy_head (s : State) (c : Counter) (n : Nat) :
    (s.countBy c n).head = s.head := rfl
@[simp] theorem State.countBy_sched (s : State) (c : Counter) (n : Nat) :
    (s.countBy c n).sched = s.sched := rfl
@[simp] theorem State.countBy_corr (s : State) (c : Counter) (n : Nat) :
    (s.countBy c n).corr = s.corr := rfl
@[simp] theorem State.countBy_tracer (s : State) (c : Counter) (n : Nat) :
    (s.countBy c n).tracer = s.tracer := rfl
@[simp] theorem State.countBy_xcvr (s : State) (c : Counter) (n : Nat) :
    (s.countBy c n).xcvr = s.xcvr := rfl
@[simp] theorem State.countBy_hz (s : State) (c : Counter) (n : Nat) :
    (s.countBy c n).hz = s.hz := rfl
@[simp] theorem State.countBy_record (s : State) (c : Counter) (n : Nat) :
    (s.countBy c n).record = s.record := rfl
@[simp] theorem State.countBy_billet (s : State) (c : Counter) (n : Nat) :
    (s.countBy c n).billet = s.billet := rfl
@[simp] theorem State.countBy_marker (s : State) (c : Counter) (n : Nat) :
    (s.countBy c n).marker = s.marker := rfl

/-! ### count -/

@[simp] theorem State.count_pending (s : State) (c : Counter) :
    (s.count c).pending = s.pending := rfl
@[simp] theorem State.count_nodeTime (s : State) (c : Counter) :
    (s.count c).nodeTime = s.nodeTime := rfl
@[simp] theorem State.count_resetting (s : State) (c : Counter) :
    (s.count c).resetting = s.resetting := rfl
@[simp] theorem State.count_freeDraws (s : State) (c : Counter) :
    (s.count c).freeDraws = s.freeDraws := rfl
@[simp] theorem State.count_pins (s : State) (c : Counter) :
    (s.count c).pins = s.pins := rfl
@[simp] theorem State.count_ctl (s : State) (c : Counter) :
    (s.count c).ctl = s.ctl := rfl
@[simp] theorem State.count_travel (s : State) (c : Counter) :
    (s.count c).travel = s.travel := rfl
@[simp] theorem State.count_head (s : State) (c : Counter) :
    (s.count c).head = s.head := rfl
@[simp] theorem State.count_sched (s : State) (c : Counter) :
    (s.count c).sched = s.sched := rfl
@[simp] theorem State.count_corr (s : State) (c : Counter) :
    (s.count c).corr = s.corr := rfl
@[simp] theorem State.count_tracer (s : State) (c : Counter) :
    (s.count c).tracer = s.tracer := rfl
@[simp] theorem State.count_xcvr (s : State) (c : Counter) :
    (s.count c).xcvr = s.xcvr := rfl
@[simp] theorem State.count_hz (s : State) (c : Counter) :
    (s.count c).hz = s.hz := rfl
@[simp] theorem State.count_record (s : State) (c : Counter) :
    (s.count c).record = s.record := rfl
@[simp] theorem State.count_billet (s : State) (c : Counter) :
    (s.count c).billet = s.billet := rfl
@[simp] theorem State.count_marker (s : State) (c : Counter) :
    (s.count c).marker = s.marker := rfl

/-! ### clearFlags -/

@[simp] theorem State.clearFlags_pending (s : State) :
    (s.clearFlags).pending = s.pending := rfl
@[simp] theorem State.clearFlags_nodeTime (s : State) :
    (s.clearFlags).nodeTime = s.nodeTime := rfl
@[simp] theorem State.clearFlags_resetting (s : State) :
    (s.clearFlags).resetting = s.resetting := rfl
@[simp] theorem State.clearFlags_freeDraws (s : State) :
    (s.clearFlags).freeDraws = s.freeDraws := rfl
@[simp] theorem State.clearFlags_pins (s : State) :
    (s.clearFlags).pins = s.pins := rfl
@[simp] theorem State.clearFlags_ctl (s : State) :
    (s.clearFlags).ctl = s.ctl := rfl
@[simp] theorem State.clearFlags_travel (s : State) :
    (s.clearFlags).travel = s.travel := rfl
@[simp] theorem State.clearFlags_head (s : State) :
    (s.clearFlags).head = s.head := rfl
@[simp] theorem State.clearFlags_sched (s : State) :
    (s.clearFlags).sched = s.sched := rfl
@[simp] theorem State.clearFlags_corr (s : State) :
    (s.clearFlags).corr = s.corr := rfl
@[simp] theorem State.clearFlags_tracer (s : State) :
    (s.clearFlags).tracer = s.tracer := rfl
@[simp] theorem State.clearFlags_xcvr (s : State) :
    (s.clearFlags).xcvr = s.xcvr := rfl
@[simp] theorem State.clearFlags_hz (s : State) :
    (s.clearFlags).hz = s.hz := rfl
@[simp] theorem State.clearFlags_record (s : State) :
    (s.clearFlags).record = s.record := rfl
@[simp] theorem State.clearFlags_billet (s : State) :
    (s.clearFlags).billet = s.billet := rfl
@[simp] theorem State.clearFlags_marker (s : State) :
    (s.clearFlags).marker = s.marker := rfl

/-! ### linkFailure -/

@[simp] theorem State.linkFailure_pending (s : State) (f : DiagFlag) (c : Counter) :
    (s.linkFailure f c).pending = s.pending := rfl
@[simp] theorem State.linkFailure_nodeTime (s : State) (f : DiagFlag) (c : Counter) :
    (s.linkFailure f c).nodeTime = s.nodeTime := rfl
@[simp] theorem State.linkFailure_resetting (s : State) (f : DiagFlag) (c : Counter) :
    (s.linkFailure f c).resetting = s.resetting := rfl
@[simp] theorem State.linkFailure_freeDraws (s : State) (f : DiagFlag) (c : Counter) :
    (s.linkFailure f c).freeDraws = s.freeDraws := rfl
@[simp] theorem State.linkFailure_pins (s : State) (f : DiagFlag) (c : Counter) :
    (s.linkFailure f c).pins = s.pins := rfl
@[simp] theorem State.linkFailure_ctl (s : State) (f : DiagFlag) (c : Counter) :
    (s.linkFailure f c).ctl = s.ctl := rfl
@[simp] theorem State.linkFailure_travel (s : State) (f : DiagFlag) (c : Counter) :
    (s.linkFailure f c).travel = s.travel := rfl
@[simp] theorem State.linkFailure_head (s : State) (f : DiagFlag) (c : Counter) :
    (s.linkFailure f c).head = s.head := rfl
@[simp] theorem State.linkFailure_sched (s : State) (f : DiagFlag) (c : Counter) :
    (s.linkFailure f c).sched = s.sched := rfl
@[simp] theorem State.linkFailure_corr (s : State) (f : DiagFlag) (c : Counter) :
    (s.linkFailure f c).corr = s.corr := rfl
@[simp] theorem State.linkFailure_tracer (s : State) (f : DiagFlag) (c : Counter) :
    (s.linkFailure f c).tracer = s.tracer := rfl
@[simp] theorem State.linkFailure_xcvr (s : State) (f : DiagFlag) (c : Counter) :
    (s.linkFailure f c).xcvr = s.xcvr := rfl
@[simp] theorem State.linkFailure_hz (s : State) (f : DiagFlag) (c : Counter) :
    (s.linkFailure f c).hz = s.hz := rfl
@[simp] theorem State.linkFailure_record (s : State) (f : DiagFlag) (c : Counter) :
    (s.linkFailure f c).record = s.record := rfl
@[simp] theorem State.linkFailure_billet (s : State) (f : DiagFlag) (c : Counter) :
    (s.linkFailure f c).billet = s.billet := rfl
@[simp] theorem State.linkFailure_marker (s : State) (f : DiagFlag) (c : Counter) :
    (s.linkFailure f c).marker = s.marker := rfl

/-! ### port -/

@[simp] theorem State.port_pending (s : State) (m : PortMessage) :
    (s.port m).pending = s.pending := rfl
@[simp] theorem State.port_nodeTime (s : State) (m : PortMessage) :
    (s.port m).nodeTime = s.nodeTime := rfl
@[simp] theorem State.port_resetting (s : State) (m : PortMessage) :
    (s.port m).resetting = s.resetting := rfl
@[simp] theorem State.port_freeDraws (s : State) (m : PortMessage) :
    (s.port m).freeDraws = s.freeDraws := rfl
@[simp] theorem State.port_pins (s : State) (m : PortMessage) :
    (s.port m).pins = s.pins := rfl
@[simp] theorem State.port_ctl (s : State) (m : PortMessage) :
    (s.port m).ctl = s.ctl := rfl
@[simp] theorem State.port_travel (s : State) (m : PortMessage) :
    (s.port m).travel = s.travel := rfl
@[simp] theorem State.port_sched (s : State) (m : PortMessage) :
    (s.port m).sched = s.sched := rfl
@[simp] theorem State.port_corr (s : State) (m : PortMessage) :
    (s.port m).corr = s.corr := rfl
@[simp] theorem State.port_tracer (s : State) (m : PortMessage) :
    (s.port m).tracer = s.tracer := rfl
@[simp] theorem State.port_xcvr (s : State) (m : PortMessage) :
    (s.port m).xcvr = s.xcvr := rfl
@[simp] theorem State.port_hz (s : State) (m : PortMessage) :
    (s.port m).hz = s.hz := rfl
@[simp] theorem State.port_record (s : State) (m : PortMessage) :
    (s.port m).record = s.record := rfl
@[simp] theorem State.port_billet (s : State) (m : PortMessage) :
    (s.port m).billet = s.billet := rfl
@[simp] theorem State.port_marker (s : State) (m : PortMessage) :
    (s.port m).marker = s.marker := rfl
@[simp] theorem State.port_diag (s : State) (m : PortMessage) :
    (s.port m).diag = s.diag := rfl

/-! ### setMode -/

@[simp] theorem State.setMode_pending (s : State) (m : Mode) :
    (s.setMode m).pending = s.pending := rfl
@[simp] theorem State.setMode_nodeTime (s : State) (m : Mode) :
    (s.setMode m).nodeTime = s.nodeTime := rfl
@[simp] theorem State.setMode_resetting (s : State) (m : Mode) :
    (s.setMode m).resetting = s.resetting := rfl
@[simp] theorem State.setMode_freeDraws (s : State) (m : Mode) :
    (s.setMode m).freeDraws = s.freeDraws := rfl
@[simp] theorem State.setMode_pins (s : State) (m : Mode) :
    (s.setMode m).pins = s.pins := rfl
@[simp] theorem State.setMode_travel (s : State) (m : Mode) :
    (s.setMode m).travel = s.travel := rfl
@[simp] theorem State.setMode_head (s : State) (m : Mode) :
    (s.setMode m).head = s.head := rfl
@[simp] theorem State.setMode_sched (s : State) (m : Mode) :
    (s.setMode m).sched = s.sched := rfl
@[simp] theorem State.setMode_corr (s : State) (m : Mode) :
    (s.setMode m).corr = s.corr := rfl
@[simp] theorem State.setMode_tracer (s : State) (m : Mode) :
    (s.setMode m).tracer = s.tracer := rfl
@[simp] theorem State.setMode_xcvr (s : State) (m : Mode) :
    (s.setMode m).xcvr = s.xcvr := rfl
@[simp] theorem State.setMode_hz (s : State) (m : Mode) :
    (s.setMode m).hz = s.hz := rfl
@[simp] theorem State.setMode_record (s : State) (m : Mode) :
    (s.setMode m).record = s.record := rfl
@[simp] theorem State.setMode_billet (s : State) (m : Mode) :
    (s.setMode m).billet = s.billet := rfl
@[simp] theorem State.setMode_marker (s : State) (m : Mode) :
    (s.setMode m).marker = s.marker := rfl
@[simp] theorem State.setMode_diag (s : State) (m : Mode) :
    (s.setMode m).diag = s.diag := rfl

/-! ### dropLine -/

@[simp] theorem State.dropLine_pending (s : State) :
    (s.dropLine).pending = s.pending := rfl
@[simp] theorem State.dropLine_nodeTime (s : State) :
    (s.dropLine).nodeTime = s.nodeTime := rfl
@[simp] theorem State.dropLine_resetting (s : State) :
    (s.dropLine).resetting = s.resetting := rfl
@[simp] theorem State.dropLine_freeDraws (s : State) :
    (s.dropLine).freeDraws = s.freeDraws := rfl
@[simp] theorem State.dropLine_pins (s : State) :
    (s.dropLine).pins = s.pins := rfl
@[simp] theorem State.dropLine_ctl (s : State) :
    (s.dropLine).ctl = s.ctl := rfl
@[simp] theorem State.dropLine_travel (s : State) :
    (s.dropLine).travel = s.travel := rfl
@[simp] theorem State.dropLine_sched (s : State) :
    (s.dropLine).sched = s.sched := rfl
@[simp] theorem State.dropLine_corr (s : State) :
    (s.dropLine).corr = s.corr := rfl
@[simp] theorem State.dropLine_tracer (s : State) :
    (s.dropLine).tracer = s.tracer := rfl
@[simp] theorem State.dropLine_xcvr (s : State) :
    (s.dropLine).xcvr = s.xcvr := rfl
@[simp] theorem State.dropLine_hz (s : State) :
    (s.dropLine).hz = s.hz := rfl
@[simp] theorem State.dropLine_record (s : State) :
    (s.dropLine).record = s.record := rfl
@[simp] theorem State.dropLine_billet (s : State) :
    (s.dropLine).billet = s.billet := rfl
@[simp] theorem State.dropLine_marker (s : State) :
    (s.dropLine).marker = s.marker := rfl
@[simp] theorem State.dropLine_diag (s : State) :
    (s.dropLine).diag = s.diag := rfl

/-! ### clearTimeouts -/

@[simp] theorem State.clearTimeouts_pending (s : State) :
    (s.clearTimeouts).pending = s.pending := rfl
@[simp] theorem State.clearTimeouts_nodeTime (s : State) :
    (s.clearTimeouts).nodeTime = s.nodeTime := rfl
@[simp] theorem State.clearTimeouts_resetting (s : State) :
    (s.clearTimeouts).resetting = s.resetting := rfl
@[simp] theorem State.clearTimeouts_freeDraws (s : State) :
    (s.clearTimeouts).freeDraws = s.freeDraws := rfl
@[simp] theorem State.clearTimeouts_pins (s : State) :
    (s.clearTimeouts).pins = s.pins := rfl
@[simp] theorem State.clearTimeouts_ctl (s : State) :
    (s.clearTimeouts).ctl = s.ctl := rfl
@[simp] theorem State.clearTimeouts_travel (s : State) :
    (s.clearTimeouts).travel = s.travel := rfl
@[simp] theorem State.clearTimeouts_sched (s : State) :
    (s.clearTimeouts).sched = s.sched := rfl
@[simp] theorem State.clearTimeouts_corr (s : State) :
    (s.clearTimeouts).corr = s.corr := rfl
@[simp] theorem State.clearTimeouts_tracer (s : State) :
    (s.clearTimeouts).tracer = s.tracer := rfl
@[simp] theorem State.clearTimeouts_xcvr (s : State) :
    (s.clearTimeouts).xcvr = s.xcvr := rfl
@[simp] theorem State.clearTimeouts_hz (s : State) :
    (s.clearTimeouts).hz = s.hz := rfl
@[simp] theorem State.clearTimeouts_record (s : State) :
    (s.clearTimeouts).record = s.record := rfl
@[simp] theorem State.clearTimeouts_billet (s : State) :
    (s.clearTimeouts).billet = s.billet := rfl
@[simp] theorem State.clearTimeouts_marker (s : State) :
    (s.clearTimeouts).marker = s.marker := rfl
@[simp] theorem State.clearTimeouts_diag (s : State) :
    (s.clearTimeouts).diag = s.diag := rfl

/-! ### noteLine -/

@[simp] theorem State.noteLine_pending (s : State) (v : Setup) (p : Int) :
    (s.noteLine v p).pending = s.pending := rfl
@[simp] theorem State.noteLine_nodeTime (s : State) (v : Setup) (p : Int) :
    (s.noteLine v p).nodeTime = s.nodeTime := rfl
@[simp] theorem State.noteLine_resetting (s : State) (v : Setup) (p : Int) :
    (s.noteLine v p).resetting = s.resetting := rfl
@[simp] theorem State.noteLine_freeDraws (s : State) (v : Setup) (p : Int) :
    (s.noteLine v p).freeDraws = s.freeDraws := rfl
@[simp] theorem State.noteLine_pins (s : State) (v : Setup) (p : Int) :
    (s.noteLine v p).pins = s.pins := rfl
@[simp] theorem State.noteLine_ctl (s : State) (v : Setup) (p : Int) :
    (s.noteLine v p).ctl = s.ctl := rfl
@[simp] theorem State.noteLine_travel (s : State) (v : Setup) (p : Int) :
    (s.noteLine v p).travel = s.travel := rfl
@[simp] theorem State.noteLine_head (s : State) (v : Setup) (p : Int) :
    (s.noteLine v p).head = s.head := rfl
@[simp] theorem State.noteLine_sched (s : State) (v : Setup) (p : Int) :
    (s.noteLine v p).sched = s.sched := rfl
@[simp] theorem State.noteLine_corr (s : State) (v : Setup) (p : Int) :
    (s.noteLine v p).corr = s.corr := rfl
@[simp] theorem State.noteLine_tracer (s : State) (v : Setup) (p : Int) :
    (s.noteLine v p).tracer = s.tracer := rfl
@[simp] theorem State.noteLine_xcvr (s : State) (v : Setup) (p : Int) :
    (s.noteLine v p).xcvr = s.xcvr := rfl
@[simp] theorem State.noteLine_record (s : State) (v : Setup) (p : Int) :
    (s.noteLine v p).record = s.record := rfl
@[simp] theorem State.noteLine_billet (s : State) (v : Setup) (p : Int) :
    (s.noteLine v p).billet = s.billet := rfl
@[simp] theorem State.noteLine_marker (s : State) (v : Setup) (p : Int) :
    (s.noteLine v p).marker = s.marker := rfl
@[simp] theorem State.noteLine_diag (s : State) (v : Setup) (p : Int) :
    (s.noteLine v p).diag = s.diag := rfl

/-! ### reportRemoval -/

@[simp] theorem State.reportRemoval_pending (s : State) (e : Entry) :
    (s.reportRemoval e).pending = s.pending := rfl
@[simp] theorem State.reportRemoval_nodeTime (s : State) (e : Entry) :
    (s.reportRemoval e).nodeTime = s.nodeTime := rfl
@[simp] theorem State.reportRemoval_resetting (s : State) (e : Entry) :
    (s.reportRemoval e).resetting = s.resetting := rfl
@[simp] theorem State.reportRemoval_freeDraws (s : State) (e : Entry) :
    (s.reportRemoval e).freeDraws = s.freeDraws := rfl
@[simp] theorem State.reportRemoval_pins (s : State) (e : Entry) :
    (s.reportRemoval e).pins = s.pins := rfl
@[simp] theorem State.reportRemoval_ctl (s : State) (e : Entry) :
    (s.reportRemoval e).ctl = s.ctl := rfl
@[simp] theorem State.reportRemoval_travel (s : State) (e : Entry) :
    (s.reportRemoval e).travel = s.travel := rfl
@[simp] theorem State.reportRemoval_head (s : State) (e : Entry) :
    (s.reportRemoval e).head = s.head := rfl
@[simp] theorem State.reportRemoval_sched (s : State) (e : Entry) :
    (s.reportRemoval e).sched = s.sched := rfl
@[simp] theorem State.reportRemoval_corr (s : State) (e : Entry) :
    (s.reportRemoval e).corr = s.corr := rfl
@[simp] theorem State.reportRemoval_tracer (s : State) (e : Entry) :
    (s.reportRemoval e).tracer = s.tracer := rfl
@[simp] theorem State.reportRemoval_xcvr (s : State) (e : Entry) :
    (s.reportRemoval e).xcvr = s.xcvr := rfl
@[simp] theorem State.reportRemoval_hz (s : State) (e : Entry) :
    (s.reportRemoval e).hz = s.hz := rfl
@[simp] theorem State.reportRemoval_record (s : State) (e : Entry) :
    (s.reportRemoval e).record = s.record := rfl
@[simp] theorem State.reportRemoval_marker (s : State) (e : Entry) :
    (s.reportRemoval e).marker = s.marker := rfl
@[simp] theorem State.reportRemoval_diag (s : State) (e : Entry) :
    (s.reportRemoval e).diag = s.diag := rfl

/-! ### setSeg -/

@[simp] theorem State.setSeg_pending (s : State) (i : Fin 8) (g : Segment) :
    (s.setSeg i g).pending = s.pending := rfl
@[simp] theorem State.setSeg_nodeTime (s : State) (i : Fin 8) (g : Segment) :
    (s.setSeg i g).nodeTime = s.nodeTime := rfl
@[simp] theorem State.setSeg_resetting (s : State) (i : Fin 8) (g : Segment) :
    (s.setSeg i g).resetting = s.resetting := rfl
@[simp] theorem State.setSeg_freeDraws (s : State) (i : Fin 8) (g : Segment) :
    (s.setSeg i g).freeDraws = s.freeDraws := rfl
@[simp] theorem State.setSeg_pins (s : State) (i : Fin 8) (g : Segment) :
    (s.setSeg i g).pins = s.pins := rfl
@[simp] theorem State.setSeg_ctl (s : State) (i : Fin 8) (g : Segment) :
    (s.setSeg i g).ctl = s.ctl := rfl
@[simp] theorem State.setSeg_travel (s : State) (i : Fin 8) (g : Segment) :
    (s.setSeg i g).travel = s.travel := rfl
@[simp] theorem State.setSeg_head (s : State) (i : Fin 8) (g : Segment) :
    (s.setSeg i g).head = s.head := rfl
@[simp] theorem State.setSeg_corr (s : State) (i : Fin 8) (g : Segment) :
    (s.setSeg i g).corr = s.corr := rfl
@[simp] theorem State.setSeg_tracer (s : State) (i : Fin 8) (g : Segment) :
    (s.setSeg i g).tracer = s.tracer := rfl
@[simp] theorem State.setSeg_xcvr (s : State) (i : Fin 8) (g : Segment) :
    (s.setSeg i g).xcvr = s.xcvr := rfl
@[simp] theorem State.setSeg_hz (s : State) (i : Fin 8) (g : Segment) :
    (s.setSeg i g).hz = s.hz := rfl
@[simp] theorem State.setSeg_record (s : State) (i : Fin 8) (g : Segment) :
    (s.setSeg i g).record = s.record := rfl
@[simp] theorem State.setSeg_billet (s : State) (i : Fin 8) (g : Segment) :
    (s.setSeg i g).billet = s.billet := rfl
@[simp] theorem State.setSeg_marker (s : State) (i : Fin 8) (g : Segment) :
    (s.setSeg i g).marker = s.marker := rfl
@[simp] theorem State.setSeg_diag (s : State) (i : Fin 8) (g : Segment) :
    (s.setSeg i g).diag = s.diag := rfl

/-! ### renewSeg -/

@[simp] theorem State.renewSeg_pending (s : State) (i : Fin 8) :
    (s.renewSeg i).pending = s.pending := rfl
@[simp] theorem State.renewSeg_nodeTime (s : State) (i : Fin 8) :
    (s.renewSeg i).nodeTime = s.nodeTime := rfl
@[simp] theorem State.renewSeg_resetting (s : State) (i : Fin 8) :
    (s.renewSeg i).resetting = s.resetting := rfl
@[simp] theorem State.renewSeg_freeDraws (s : State) (i : Fin 8) :
    (s.renewSeg i).freeDraws = s.freeDraws := rfl
@[simp] theorem State.renewSeg_pins (s : State) (i : Fin 8) :
    (s.renewSeg i).pins = s.pins := rfl
@[simp] theorem State.renewSeg_ctl (s : State) (i : Fin 8) :
    (s.renewSeg i).ctl = s.ctl := rfl
@[simp] theorem State.renewSeg_travel (s : State) (i : Fin 8) :
    (s.renewSeg i).travel = s.travel := rfl
@[simp] theorem State.renewSeg_head (s : State) (i : Fin 8) :
    (s.renewSeg i).head = s.head := rfl
@[simp] theorem State.renewSeg_corr (s : State) (i : Fin 8) :
    (s.renewSeg i).corr = s.corr := rfl
@[simp] theorem State.renewSeg_tracer (s : State) (i : Fin 8) :
    (s.renewSeg i).tracer = s.tracer := rfl
@[simp] theorem State.renewSeg_xcvr (s : State) (i : Fin 8) :
    (s.renewSeg i).xcvr = s.xcvr := rfl
@[simp] theorem State.renewSeg_hz (s : State) (i : Fin 8) :
    (s.renewSeg i).hz = s.hz := rfl
@[simp] theorem State.renewSeg_record (s : State) (i : Fin 8) :
    (s.renewSeg i).record = s.record := rfl
@[simp] theorem State.renewSeg_billet (s : State) (i : Fin 8) :
    (s.renewSeg i).billet = s.billet := rfl
@[simp] theorem State.renewSeg_marker (s : State) (i : Fin 8) :
    (s.renewSeg i).marker = s.marker := rfl
@[simp] theorem State.renewSeg_diag (s : State) (i : Fin 8) :
    (s.renewSeg i).diag = s.diag := rfl

/-! ### endReference -/

@[simp] theorem State.endReference_pending (s : State) (scope : Scope) (n : Nat) :
    (s.endReference scope n).pending = s.pending := rfl
@[simp] theorem State.endReference_nodeTime (s : State) (scope : Scope) (n : Nat) :
    (s.endReference scope n).nodeTime = s.nodeTime := rfl
@[simp] theorem State.endReference_resetting (s : State) (scope : Scope) (n : Nat) :
    (s.endReference scope n).resetting = s.resetting := rfl
@[simp] theorem State.endReference_freeDraws (s : State) (scope : Scope) (n : Nat) :
    (s.endReference scope n).freeDraws = s.freeDraws := rfl
@[simp] theorem State.endReference_pins (s : State) (scope : Scope) (n : Nat) :
    (s.endReference scope n).pins = s.pins := rfl
@[simp] theorem State.endReference_ctl (s : State) (scope : Scope) (n : Nat) :
    (s.endReference scope n).ctl = s.ctl := rfl
@[simp] theorem State.endReference_travel (s : State) (scope : Scope) (n : Nat) :
    (s.endReference scope n).travel = s.travel := rfl
@[simp] theorem State.endReference_head (s : State) (scope : Scope) (n : Nat) :
    (s.endReference scope n).head = s.head := rfl
@[simp] theorem State.endReference_tracer (s : State) (scope : Scope) (n : Nat) :
    (s.endReference scope n).tracer = s.tracer := rfl
@[simp] theorem State.endReference_xcvr (s : State) (scope : Scope) (n : Nat) :
    (s.endReference scope n).xcvr = s.xcvr := rfl
@[simp] theorem State.endReference_hz (s : State) (scope : Scope) (n : Nat) :
    (s.endReference scope n).hz = s.hz := rfl
@[simp] theorem State.endReference_record (s : State) (scope : Scope) (n : Nat) :
    (s.endReference scope n).record = s.record := rfl
@[simp] theorem State.endReference_billet (s : State) (scope : Scope) (n : Nat) :
    (s.endReference scope n).billet = s.billet := rfl
@[simp] theorem State.endReference_marker (s : State) (scope : Scope) (n : Nat) :
    (s.endReference scope n).marker = s.marker := rfl
@[simp] theorem State.endReference_diag (s : State) (scope : Scope) (n : Nat) :
    (s.endReference scope n).diag = s.diag := rfl

/-! ### allCurrent -/

@[simp] theorem State.allCurrent_pending (s : State) (accepted : Bool) :
    (s.allCurrent accepted).pending = s.pending := rfl
@[simp] theorem State.allCurrent_nodeTime (s : State) (accepted : Bool) :
    (s.allCurrent accepted).nodeTime = s.nodeTime := rfl
@[simp] theorem State.allCurrent_resetting (s : State) (accepted : Bool) :
    (s.allCurrent accepted).resetting = s.resetting := rfl
@[simp] theorem State.allCurrent_freeDraws (s : State) (accepted : Bool) :
    (s.allCurrent accepted).freeDraws = s.freeDraws := rfl
@[simp] theorem State.allCurrent_pins (s : State) (accepted : Bool) :
    (s.allCurrent accepted).pins = s.pins := rfl
@[simp] theorem State.allCurrent_ctl (s : State) (accepted : Bool) :
    (s.allCurrent accepted).ctl = s.ctl := rfl
@[simp] theorem State.allCurrent_travel (s : State) (accepted : Bool) :
    (s.allCurrent accepted).travel = s.travel := rfl
@[simp] theorem State.allCurrent_head (s : State) (accepted : Bool) :
    (s.allCurrent accepted).head = s.head := rfl
@[simp] theorem State.allCurrent_corr (s : State) (accepted : Bool) :
    (s.allCurrent accepted).corr = s.corr := rfl
@[simp] theorem State.allCurrent_tracer (s : State) (accepted : Bool) :
    (s.allCurrent accepted).tracer = s.tracer := rfl
@[simp] theorem State.allCurrent_xcvr (s : State) (accepted : Bool) :
    (s.allCurrent accepted).xcvr = s.xcvr := rfl
@[simp] theorem State.allCurrent_hz (s : State) (accepted : Bool) :
    (s.allCurrent accepted).hz = s.hz := rfl
@[simp] theorem State.allCurrent_record (s : State) (accepted : Bool) :
    (s.allCurrent accepted).record = s.record := rfl
@[simp] theorem State.allCurrent_billet (s : State) (accepted : Bool) :
    (s.allCurrent accepted).billet = s.billet := rfl
@[simp] theorem State.allCurrent_marker (s : State) (accepted : Bool) :
    (s.allCurrent accepted).marker = s.marker := rfl
@[simp] theorem State.allCurrent_diag (s : State) (accepted : Bool) :
    (s.allCurrent accepted).diag = s.diag := rfl

/-! ### requestReference -/

@[simp] theorem State.requestReference_pending (s : State) (scope : Scope) :
    (s.requestReference scope).pending = s.pending := rfl
@[simp] theorem State.requestReference_nodeTime (s : State) (scope : Scope) :
    (s.requestReference scope).nodeTime = s.nodeTime := rfl
@[simp] theorem State.requestReference_resetting (s : State) (scope : Scope) :
    (s.requestReference scope).resetting = s.resetting := rfl
@[simp] theorem State.requestReference_freeDraws (s : State) (scope : Scope) :
    (s.requestReference scope).freeDraws = s.freeDraws := rfl
@[simp] theorem State.requestReference_pins (s : State) (scope : Scope) :
    (s.requestReference scope).pins = s.pins := rfl
@[simp] theorem State.requestReference_ctl (s : State) (scope : Scope) :
    (s.requestReference scope).ctl = s.ctl := rfl
@[simp] theorem State.requestReference_travel (s : State) (scope : Scope) :
    (s.requestReference scope).travel = s.travel := rfl
@[simp] theorem State.requestReference_sched (s : State) (scope : Scope) :
    (s.requestReference scope).sched = s.sched := rfl
@[simp] theorem State.requestReference_corr (s : State) (scope : Scope) :
    (s.requestReference scope).corr = s.corr := rfl
@[simp] theorem State.requestReference_tracer (s : State) (scope : Scope) :
    (s.requestReference scope).tracer = s.tracer := rfl
@[simp] theorem State.requestReference_xcvr (s : State) (scope : Scope) :
    (s.requestReference scope).xcvr = s.xcvr := rfl
@[simp] theorem State.requestReference_hz (s : State) (scope : Scope) :
    (s.requestReference scope).hz = s.hz := rfl
@[simp] theorem State.requestReference_record (s : State) (scope : Scope) :
    (s.requestReference scope).record = s.record := rfl
@[simp] theorem State.requestReference_billet (s : State) (scope : Scope) :
    (s.requestReference scope).billet = s.billet := rfl
@[simp] theorem State.requestReference_marker (s : State) (scope : Scope) :
    (s.requestReference scope).marker = s.marker := rfl
@[simp] theorem State.requestReference_diag (s : State) (scope : Scope) :
    (s.requestReference scope).diag = s.diag := rfl

/-! ### requestLine -/

@[simp] theorem State.requestLine_pending (s : State) (p : Int) :
    (s.requestLine p).pending = s.pending := rfl
@[simp] theorem State.requestLine_nodeTime (s : State) (p : Int) :
    (s.requestLine p).nodeTime = s.nodeTime := rfl
@[simp] theorem State.requestLine_resetting (s : State) (p : Int) :
    (s.requestLine p).resetting = s.resetting := rfl
@[simp] theorem State.requestLine_freeDraws (s : State) (p : Int) :
    (s.requestLine p).freeDraws = s.freeDraws := rfl
@[simp] theorem State.requestLine_pins (s : State) (p : Int) :
    (s.requestLine p).pins = s.pins := rfl
@[simp] theorem State.requestLine_ctl (s : State) (p : Int) :
    (s.requestLine p).ctl = s.ctl := rfl
@[simp] theorem State.requestLine_travel (s : State) (p : Int) :
    (s.requestLine p).travel = s.travel := rfl
@[simp] theorem State.requestLine_sched (s : State) (p : Int) :
    (s.requestLine p).sched = s.sched := rfl
@[simp] theorem State.requestLine_corr (s : State) (p : Int) :
    (s.requestLine p).corr = s.corr := rfl
@[simp] theorem State.requestLine_tracer (s : State) (p : Int) :
    (s.requestLine p).tracer = s.tracer := rfl
@[simp] theorem State.requestLine_xcvr (s : State) (p : Int) :
    (s.requestLine p).xcvr = s.xcvr := rfl
@[simp] theorem State.requestLine_hz (s : State) (p : Int) :
    (s.requestLine p).hz = s.hz := rfl
@[simp] theorem State.requestLine_record (s : State) (p : Int) :
    (s.requestLine p).record = s.record := rfl
@[simp] theorem State.requestLine_billet (s : State) (p : Int) :
    (s.requestLine p).billet = s.billet := rfl
@[simp] theorem State.requestLine_marker (s : State) (p : Int) :
    (s.requestLine p).marker = s.marker := rfl
@[simp] theorem State.requestLine_diag (s : State) (p : Int) :
    (s.requestLine p).diag = s.diag := rfl

/-! ### requestProbe -/

@[simp] theorem State.requestProbe_pending (s : State) :
    (s.requestProbe).pending = s.pending := rfl
@[simp] theorem State.requestProbe_nodeTime (s : State) :
    (s.requestProbe).nodeTime = s.nodeTime := rfl
@[simp] theorem State.requestProbe_resetting (s : State) :
    (s.requestProbe).resetting = s.resetting := rfl
@[simp] theorem State.requestProbe_freeDraws (s : State) :
    (s.requestProbe).freeDraws = s.freeDraws := rfl
@[simp] theorem State.requestProbe_pins (s : State) :
    (s.requestProbe).pins = s.pins := rfl
@[simp] theorem State.requestProbe_ctl (s : State) :
    (s.requestProbe).ctl = s.ctl := rfl
@[simp] theorem State.requestProbe_travel (s : State) :
    (s.requestProbe).travel = s.travel := rfl
@[simp] theorem State.requestProbe_sched (s : State) :
    (s.requestProbe).sched = s.sched := rfl
@[simp] theorem State.requestProbe_corr (s : State) :
    (s.requestProbe).corr = s.corr := rfl
@[simp] theorem State.requestProbe_tracer (s : State) :
    (s.requestProbe).tracer = s.tracer := rfl
@[simp] theorem State.requestProbe_xcvr (s : State) :
    (s.requestProbe).xcvr = s.xcvr := rfl
@[simp] theorem State.requestProbe_hz (s : State) :
    (s.requestProbe).hz = s.hz := rfl
@[simp] theorem State.requestProbe_record (s : State) :
    (s.requestProbe).record = s.record := rfl
@[simp] theorem State.requestProbe_billet (s : State) :
    (s.requestProbe).billet = s.billet := rfl
@[simp] theorem State.requestProbe_marker (s : State) :
    (s.requestProbe).marker = s.marker := rfl
@[simp] theorem State.requestProbe_diag (s : State) :
    (s.requestProbe).diag = s.diag := rfl

/-! ### setAside -/

@[simp] theorem State.setAside_pending (s : State) :
    (s.setAside).pending = s.pending := rfl
@[simp] theorem State.setAside_nodeTime (s : State) :
    (s.setAside).nodeTime = s.nodeTime := rfl
@[simp] theorem State.setAside_resetting (s : State) :
    (s.setAside).resetting = s.resetting := rfl
@[simp] theorem State.setAside_freeDraws (s : State) :
    (s.setAside).freeDraws = s.freeDraws := rfl
@[simp] theorem State.setAside_pins (s : State) :
    (s.setAside).pins = s.pins := rfl
@[simp] theorem State.setAside_ctl (s : State) :
    (s.setAside).ctl = s.ctl := rfl
@[simp] theorem State.setAside_travel (s : State) :
    (s.setAside).travel = s.travel := rfl
@[simp] theorem State.setAside_head (s : State) :
    (s.setAside).head = s.head := rfl
@[simp] theorem State.setAside_sched (s : State) :
    (s.setAside).sched = s.sched := rfl
@[simp] theorem State.setAside_corr (s : State) :
    (s.setAside).corr = s.corr := rfl
@[simp] theorem State.setAside_tracer (s : State) :
    (s.setAside).tracer = s.tracer := rfl
@[simp] theorem State.setAside_record (s : State) :
    (s.setAside).record = s.record := rfl
@[simp] theorem State.setAside_billet (s : State) :
    (s.setAside).billet = s.billet := rfl
@[simp] theorem State.setAside_marker (s : State) :
    (s.setAside).marker = s.marker := rfl
@[simp] theorem State.setAside_diag (s : State) :
    (s.setAside).diag = s.diag := rfl

/-! ### leaveQueue -/

@[simp] theorem State.leaveQueue_pending (s : State) :
    (s.leaveQueue).pending = s.pending := rfl
@[simp] theorem State.leaveQueue_nodeTime (s : State) :
    (s.leaveQueue).nodeTime = s.nodeTime := rfl
@[simp] theorem State.leaveQueue_resetting (s : State) :
    (s.leaveQueue).resetting = s.resetting := rfl
@[simp] theorem State.leaveQueue_freeDraws (s : State) :
    (s.leaveQueue).freeDraws = s.freeDraws := rfl
@[simp] theorem State.leaveQueue_pins (s : State) :
    (s.leaveQueue).pins = s.pins := rfl
@[simp] theorem State.leaveQueue_ctl (s : State) :
    (s.leaveQueue).ctl = s.ctl := rfl
@[simp] theorem State.leaveQueue_travel (s : State) :
    (s.leaveQueue).travel = s.travel := rfl
@[simp] theorem State.leaveQueue_head (s : State) :
    (s.leaveQueue).head = s.head := rfl
@[simp] theorem State.leaveQueue_sched (s : State) :
    (s.leaveQueue).sched = s.sched := rfl
@[simp] theorem State.leaveQueue_corr (s : State) :
    (s.leaveQueue).corr = s.corr := rfl
@[simp] theorem State.leaveQueue_tracer (s : State) :
    (s.leaveQueue).tracer = s.tracer := rfl
@[simp] theorem State.leaveQueue_hz (s : State) :
    (s.leaveQueue).hz = s.hz := rfl
@[simp] theorem State.leaveQueue_record (s : State) :
    (s.leaveQueue).record = s.record := rfl
@[simp] theorem State.leaveQueue_billet (s : State) :
    (s.leaveQueue).billet = s.billet := rfl
@[simp] theorem State.leaveQueue_marker (s : State) :
    (s.leaveQueue).marker = s.marker := rfl
@[simp] theorem State.leaveQueue_diag (s : State) :
    (s.leaveQueue).diag = s.diag := rfl

/-! ### load -/

@[simp] theorem State.load_pending (s : State) (f : RxFrame) :
    (s.load f).pending = s.pending := rfl
@[simp] theorem State.load_nodeTime (s : State) (f : RxFrame) :
    (s.load f).nodeTime = s.nodeTime := rfl
@[simp] theorem State.load_resetting (s : State) (f : RxFrame) :
    (s.load f).resetting = s.resetting := rfl
@[simp] theorem State.load_freeDraws (s : State) (f : RxFrame) :
    (s.load f).freeDraws = s.freeDraws := rfl
@[simp] theorem State.load_pins (s : State) (f : RxFrame) :
    (s.load f).pins = s.pins := rfl
@[simp] theorem State.load_ctl (s : State) (f : RxFrame) :
    (s.load f).ctl = s.ctl := rfl
@[simp] theorem State.load_travel (s : State) (f : RxFrame) :
    (s.load f).travel = s.travel := rfl
@[simp] theorem State.load_head (s : State) (f : RxFrame) :
    (s.load f).head = s.head := rfl
@[simp] theorem State.load_sched (s : State) (f : RxFrame) :
    (s.load f).sched = s.sched := rfl
@[simp] theorem State.load_corr (s : State) (f : RxFrame) :
    (s.load f).corr = s.corr := rfl
@[simp] theorem State.load_tracer (s : State) (f : RxFrame) :
    (s.load f).tracer = s.tracer := rfl
@[simp] theorem State.load_hz (s : State) (f : RxFrame) :
    (s.load f).hz = s.hz := rfl
@[simp] theorem State.load_record (s : State) (f : RxFrame) :
    (s.load f).record = s.record := rfl
@[simp] theorem State.load_billet (s : State) (f : RxFrame) :
    (s.load f).billet = s.billet := rfl
@[simp] theorem State.load_marker (s : State) (f : RxFrame) :
    (s.load f).marker = s.marker := rfl
@[simp] theorem State.load_diag (s : State) (f : RxFrame) :
    (s.load f).diag = s.diag := rfl

/-! ### endFrame -/

@[simp] theorem State.endFrame_pending (s : State) :
    (s.endFrame).pending = s.pending := rfl
@[simp] theorem State.endFrame_nodeTime (s : State) :
    (s.endFrame).nodeTime = s.nodeTime := rfl
@[simp] theorem State.endFrame_resetting (s : State) :
    (s.endFrame).resetting = s.resetting := rfl
@[simp] theorem State.endFrame_freeDraws (s : State) :
    (s.endFrame).freeDraws = s.freeDraws := rfl
@[simp] theorem State.endFrame_pins (s : State) :
    (s.endFrame).pins = s.pins := rfl
@[simp] theorem State.endFrame_ctl (s : State) :
    (s.endFrame).ctl = s.ctl := rfl
@[simp] theorem State.endFrame_travel (s : State) :
    (s.endFrame).travel = s.travel := rfl
@[simp] theorem State.endFrame_head (s : State) :
    (s.endFrame).head = s.head := rfl
@[simp] theorem State.endFrame_sched (s : State) :
    (s.endFrame).sched = s.sched := rfl
@[simp] theorem State.endFrame_corr (s : State) :
    (s.endFrame).corr = s.corr := rfl
@[simp] theorem State.endFrame_tracer (s : State) :
    (s.endFrame).tracer = s.tracer := rfl
@[simp] theorem State.endFrame_hz (s : State) :
    (s.endFrame).hz = s.hz := rfl
@[simp] theorem State.endFrame_record (s : State) :
    (s.endFrame).record = s.record := rfl
@[simp] theorem State.endFrame_billet (s : State) :
    (s.endFrame).billet = s.billet := rfl
@[simp] theorem State.endFrame_marker (s : State) :
    (s.endFrame).marker = s.marker := rfl
@[simp] theorem State.endFrame_diag (s : State) :
    (s.endFrame).diag = s.diag := rfl

/-! ### setPeer -/

@[simp] theorem State.setPeer_pending (s : State) (p : Peer) :
    (s.setPeer p).pending = s.pending := rfl
@[simp] theorem State.setPeer_nodeTime (s : State) (p : Peer) :
    (s.setPeer p).nodeTime = s.nodeTime := rfl
@[simp] theorem State.setPeer_resetting (s : State) (p : Peer) :
    (s.setPeer p).resetting = s.resetting := rfl
@[simp] theorem State.setPeer_freeDraws (s : State) (p : Peer) :
    (s.setPeer p).freeDraws = s.freeDraws := rfl
@[simp] theorem State.setPeer_pins (s : State) (p : Peer) :
    (s.setPeer p).pins = s.pins := rfl
@[simp] theorem State.setPeer_ctl (s : State) (p : Peer) :
    (s.setPeer p).ctl = s.ctl := rfl
@[simp] theorem State.setPeer_travel (s : State) (p : Peer) :
    (s.setPeer p).travel = s.travel := rfl
@[simp] theorem State.setPeer_head (s : State) (p : Peer) :
    (s.setPeer p).head = s.head := rfl
@[simp] theorem State.setPeer_sched (s : State) (p : Peer) :
    (s.setPeer p).sched = s.sched := rfl
@[simp] theorem State.setPeer_corr (s : State) (p : Peer) :
    (s.setPeer p).corr = s.corr := rfl
@[simp] theorem State.setPeer_tracer (s : State) (p : Peer) :
    (s.setPeer p).tracer = s.tracer := rfl
@[simp] theorem State.setPeer_xcvr (s : State) (p : Peer) :
    (s.setPeer p).xcvr = s.xcvr := rfl
@[simp] theorem State.setPeer_record (s : State) (p : Peer) :
    (s.setPeer p).record = s.record := rfl
@[simp] theorem State.setPeer_billet (s : State) (p : Peer) :
    (s.setPeer p).billet = s.billet := rfl
@[simp] theorem State.setPeer_marker (s : State) (p : Peer) :
    (s.setPeer p).marker = s.marker := rfl
@[simp] theorem State.setPeer_diag (s : State) (p : Peer) :
    (s.setPeer p).diag = s.diag := rfl

/-! ### addPeer -/

@[simp] theorem State.addPeer_pending (s : State) (p : Peer) :
    (s.addPeer p).pending = s.pending := rfl
@[simp] theorem State.addPeer_nodeTime (s : State) (p : Peer) :
    (s.addPeer p).nodeTime = s.nodeTime := rfl
@[simp] theorem State.addPeer_resetting (s : State) (p : Peer) :
    (s.addPeer p).resetting = s.resetting := rfl
@[simp] theorem State.addPeer_freeDraws (s : State) (p : Peer) :
    (s.addPeer p).freeDraws = s.freeDraws := rfl
@[simp] theorem State.addPeer_pins (s : State) (p : Peer) :
    (s.addPeer p).pins = s.pins := rfl
@[simp] theorem State.addPeer_ctl (s : State) (p : Peer) :
    (s.addPeer p).ctl = s.ctl := rfl
@[simp] theorem State.addPeer_travel (s : State) (p : Peer) :
    (s.addPeer p).travel = s.travel := rfl
@[simp] theorem State.addPeer_head (s : State) (p : Peer) :
    (s.addPeer p).head = s.head := rfl
@[simp] theorem State.addPeer_sched (s : State) (p : Peer) :
    (s.addPeer p).sched = s.sched := rfl
@[simp] theorem State.addPeer_corr (s : State) (p : Peer) :
    (s.addPeer p).corr = s.corr := rfl
@[simp] theorem State.addPeer_tracer (s : State) (p : Peer) :
    (s.addPeer p).tracer = s.tracer := rfl
@[simp] theorem State.addPeer_xcvr (s : State) (p : Peer) :
    (s.addPeer p).xcvr = s.xcvr := rfl
@[simp] theorem State.addPeer_record (s : State) (p : Peer) :
    (s.addPeer p).record = s.record := rfl
@[simp] theorem State.addPeer_billet (s : State) (p : Peer) :
    (s.addPeer p).billet = s.billet := rfl
@[simp] theorem State.addPeer_marker (s : State) (p : Peer) :
    (s.addPeer p).marker = s.marker := rfl
@[simp] theorem State.addPeer_diag (s : State) (p : Peer) :
    (s.addPeer p).diag = s.diag := rfl

/-! ### beginReset -/

@[simp] theorem State.beginReset_pending (s : State) (c : ResetCause) :
    (s.beginReset c).pending = s.pending := rfl
@[simp] theorem State.beginReset_nodeTime (s : State) (c : ResetCause) :
    (s.beginReset c).nodeTime = s.nodeTime := rfl
@[simp] theorem State.beginReset_freeDraws (s : State) (c : ResetCause) :
    (s.beginReset c).freeDraws = s.freeDraws := rfl
@[simp] theorem State.beginReset_pins (s : State) (c : ResetCause) :
    (s.beginReset c).pins = s.pins := rfl
@[simp] theorem State.beginReset_ctl (s : State) (c : ResetCause) :
    (s.beginReset c).ctl = s.ctl := rfl
@[simp] theorem State.beginReset_travel (s : State) (c : ResetCause) :
    (s.beginReset c).travel = s.travel := rfl
@[simp] theorem State.beginReset_sched (s : State) (c : ResetCause) :
    (s.beginReset c).sched = s.sched := rfl
@[simp] theorem State.beginReset_corr (s : State) (c : ResetCause) :
    (s.beginReset c).corr = s.corr := rfl
@[simp] theorem State.beginReset_tracer (s : State) (c : ResetCause) :
    (s.beginReset c).tracer = s.tracer := rfl
@[simp] theorem State.beginReset_record (s : State) (c : ResetCause) :
    (s.beginReset c).record = s.record := rfl
@[simp] theorem State.beginReset_billet (s : State) (c : ResetCause) :
    (s.beginReset c).billet = s.billet := rfl
@[simp] theorem State.beginReset_diag (s : State) (c : ResetCause) :
    (s.beginReset c).diag = s.diag := rfl

/-! ### What the updates write -/

@[simp] theorem State.begin_nodeTime (s : State) (dt : Nat) :
    (s.begin dt).nodeTime = min (s.nodeTime + dt) Config.timeLimit := rfl
@[simp] theorem State.begin_head (s : State) (dt : Nat) :
    (s.begin dt).head = { s.head with sent := [] } := rfl
@[simp] theorem State.setMode_ctl (s : State) (m : Mode) :
    (s.setMode m).ctl = { s.ctl with mode := m } := rfl
@[simp] theorem State.dropLine_head (s : State) :
    s.dropLine.head = { s.head with line := none } := rfl
@[simp] theorem State.clearTimeouts_head (s : State) :
    s.clearTimeouts.head = { s.head with timeouts := 0 } := rfl
@[simp] theorem State.port_head (s : State) (m : PortMessage) :
    (s.port m).head = { s.head with sent := s.head.sent ++ [m] } := rfl
@[simp] theorem State.setAside_ending (s : State) : s.setAside.xcvr.ending = false := rfl
@[simp] theorem State.leaveQueue_ending (s : State) : s.leaveQueue.xcvr.ending = false := rfl
@[simp] theorem State.beginReset_ending (s : State) (c : ResetCause) :
    (s.beginReset c).xcvr.ending = false := rfl
@[simp] theorem State.endFrame_xcvr (s : State) :
    s.endFrame.xcvr = { s.xcvr.emptyBuffer with
      line := if s.xcvr.send = .sending then .busy else .idle, ending := false } := rfl
@[simp] theorem State.load_xcvr (s : State) (f : RxFrame) :
    (s.load f).xcvr = { s.xcvr with
      buffer := f.chars.take Config.bufferLimit, beyond := f.chars.length - Config.bufferLimit
      broken := f.broken } := rfl
@[simp] theorem State.leaveQueue_queue (s : State) :
    s.leaveQueue.xcvr.queue = s.xcvr.queue.tail := rfl
@[simp] theorem State.setPeer_peers (s : State) (p : Peer) :
    (s.setPeer p).hz.peers = s.hz.peers.map fun q => if q.id = p.id then p else q := rfl
@[simp] theorem State.addPeer_peers (s : State) (p : Peer) :
    (s.addPeer p).hz.peers = s.hz.peers ++ [p] := rfl
@[simp] theorem State.noteLine_notes (s : State) (v : Setup) (p : Int) :
    (s.noteLine v p).hz.notes
      = mergeRange v.linePitch s.hz.inDelivery.isSome s.hz.notes p p := rfl

/-! ### Flags and counters (R200, R201) -/

theorem DiagFlag.index_injective : Function.Injective DiagFlag.index := by
  intro a b h
  cases a <;> cases b <;> first | rfl | exact absurd h (by decide)

theorem Counter.index_injective : Function.Injective Counter.index := by
  intro a b h
  cases a <;> cases b <;> first | rfl | exact absurd h (by decide)

@[simp] theorem State.setFlag_flag_self (s : State) (f : DiagFlag) :
    (s.setFlag f).flag f = true := by
  simp [State.flag, State.setFlag]

theorem State.setFlag_flag_other (s : State) {f g : DiagFlag} (h : f ≠ g) :
    (s.setFlag f).flag g = s.flag g := by
  have hi : f.index.val ≠ g.index.val :=
    fun e => h (DiagFlag.index_injective (Fin.ext e))
  simp [State.flag, State.setFlag, Vector.getElem_set_ne, hi]

@[simp] theorem State.setFlag_counter (s : State) (f : DiagFlag) (c : Counter) :
    (s.setFlag f).counter c = s.counter c := rfl

@[simp] theorem State.countBy_counter_self (s : State) (c : Counter) (n : Nat) :
    (s.countBy c n).counter c = min Config.counterMax (s.counter c + n) := by
  simp [State.counter, State.countBy]

theorem State.countBy_counter_other (s : State) {c d : Counter} (n : Nat) (h : c ≠ d) :
    (s.countBy c n).counter d = s.counter d := by
  have hi : c.index.val ≠ d.index.val :=
    fun e => h (Counter.index_injective (Fin.ext e))
  simp [State.counter, State.countBy, Vector.getElem_set_ne, hi]

@[simp] theorem State.countBy_flag (s : State) (c : Counter) (n : Nat) (f : DiagFlag) :
    (s.countBy c n).flag f = s.flag f := rfl

@[simp] theorem State.count_counter_self (s : State) (c : Counter) :
    (s.count c).counter c = min Config.counterMax (s.counter c + 1) :=
  State.countBy_counter_self s c 1

theorem State.count_counter_other (s : State) {c d : Counter} (h : c ≠ d) :
    (s.count c).counter d = s.counter d :=
  State.countBy_counter_other s 1 h

@[simp] theorem State.count_flag (s : State) (c : Counter) (f : DiagFlag) :
    (s.count c).flag f = s.flag f := rfl

@[simp] theorem State.clearFlags_flag (s : State) (f : DiagFlag) :
    s.clearFlags.flag f = false := by
  simp [State.flag, State.clearFlags]

@[simp] theorem State.clearFlags_counter (s : State) (c : Counter) :
    s.clearFlags.counter c = s.counter c := rfl

end Sys2Proof.Machine
end

