-- ==== Sys2Proof/Laws/Commands.lean ====
section
/-! SUPPORT. What the two gates every command passes do: outside a reset the command's own effect on the
state with its time passed, during one nothing but time and input levels. And what the end of a frame does. -/

namespace Sys2Proof.Machine

theorem event_running {s : State} (h : s.resetting = none) (dt : Nat) (f : State → State) :
    event dt f s = .next (f (s.begin dt)) := by
  simp [event, h]

theorem event_resetting {s : State} (h : s.resetting.isSome = true) (dt : Nat) (f : State → State) :
    event dt f s = .next (s.begin dt) := by
  simp [event, h]

theorem inputEvent_running {s : State} (h : s.resetting = none) (dt : Nat) (set : Pins → Pins)
    (f : State → State) :
    inputEvent dt set f s = .next (f { s.begin dt with pins := set s.pins }) := by
  simp [inputEvent, h]

theorem inputEvent_resetting {s : State} (h : s.resetting.isSome = true) (dt : Nat)
    (set : Pins → Pins) (f : State → State) :
    inputEvent dt set f s = .next { s.begin dt with pins := set s.pins } := by
  simp [inputEvent, h]

theorem event_answers (dt : Nat) (f : State → State) (s : State) :
    ∃ t, event dt f s = .next t := ⟨_, rfl⟩

theorem inputEvent_answers (dt : Nat) (set : Pins → Pins) (f : State → State) (s : State) :
    ∃ t, inputEvent dt set f s = .next t := ⟨_, rfl⟩

/-- The state a frame's end leaves before its hand-off is that of the statements. -/
theorem load_endFrame (s : State) (dt : Nat) (f : RxFrame) :
    ((s.begin dt).load f).endFrame = s.frameOver dt := rfl

/-- What a frame's end does at a node that hears it, by what the qualification finds. -/
theorem receive_hearing {s : State} (h : Hearing s) (c : FrameClass) (f : RxFrame)
    (hand : FrameHead → List Byte → State → State) (dt : Nat) :
    (s.begin dt).receive c f hand = match ((s.begin dt).load f).qualify c with
      | .failed flag counter => (s.frameOver dt).linkFailure flag counter
      | .ownSender => (s.frameOver dt).setFlag .idClash
      | .notAddressed => s.frameOver dt
      | .passed head body => hand head body (s.frameOver dt) := by
  have hs : ¬((s.begin dt).xcvr.send = .sending ∧ (s.begin dt).xcvr.ending = false) := by
    intro hn
    have := h.2.2 hn.1
    simp_all
  have hg : (s.begin dt).xcvr.firstGap = false := h.2.1
  unfold State.receive
  rw [if_neg hs, hg]
  rfl

/-- A frame's end that the node does not hear changes nothing, or is the first idle gap after a reset. -/
theorem receive_deaf {s : State} (h : s.xcvr.firstGap = true ∨ s.xcvr.send = .sending)
    (he : s.xcvr.ending = false) (c : FrameClass) (f : RxFrame)
    (hand : FrameHead → List Byte → State → State) :
    s.receive c f hand = if s.xcvr.send = .sending then s else s.firstIdle := by
  unfold State.receive
  by_cases hs : s.xcvr.send = .sending
  · rw [if_pos ⟨hs, he⟩, if_pos hs]
  · have hg : s.xcvr.firstGap = true := h.resolve_right hs
    rw [if_neg (fun k => hs k.1), if_neg hs, hg]
    rfl

theorem step_cons (c : Instr) (rest : List Instr) (s : State) :
    step { s with pending := c :: rest } = exec c { s with pending := rest } := rfl

end Sys2Proof.Machine
end

