-- ==== Sys2Proof/Laws/Footprint.lean ====
section
/-! SUPPORT. What each shared operation can write: the state after it is the state before it with other
values in the blocks named, and in no other. A proof takes these in place of unfolding. -/

namespace Sys2Proof.Machine

/-! ### Transmit queue and marker unit -/

theorem State.handFrame_footprint (s : State) (f : TxFrame) :
    ∃ x d, s.handFrame f = { s with xcvr := x, diag := d } := by
  unfold State.handFrame
  split
  · exact ⟨s.xcvr, s.diag, rfl⟩
  · split
    · exact ⟨s.xcvr, _, rfl⟩
    · exact ⟨_, s.diag, rfl⟩

theorem startFrom_footprint (v : Setup) (before : Option Int) (q : List Mark) (s : State) :
    ∃ m d, startFrom v before q s = { s with marker := m, diag := d } := by
  induction q generalizing s with
  | nil => exact ⟨_, s.diag, rfl⟩
  | cons a rest ih =>
    unfold startFrom
    split
    · obtain ⟨m, d, h⟩ := ih (s.count .markLate)
      exact ⟨m, d, h⟩
    · split
      · split
        · obtain ⟨m, d, h⟩ := ih (s.count .markSkipped)
          exact ⟨m, d, h⟩
        · dsimp only
          split
          · exact ⟨_, s.diag, rfl⟩
          · exact ⟨_, _, rfl⟩
      · exact ⟨_, s.diag, rfl⟩

theorem State.startTest_footprint (s : State) (before : Option Int) :
    ∃ m d, s.startTest before = { s with marker := m, diag := d } := by
  unfold State.startTest
  split
  · exact ⟨s.marker, s.diag, rfl⟩
  · split
    · exact ⟨s.marker, s.diag, rfl⟩
    · exact startFrom_footprint _ _ _ s

theorem State.offerMark_footprint (s : State) (v : Setup) (new : Mark) :
    ∃ m d, s.offerMark v new = { s with marker := m, diag := d } := by
  unfold State.offerMark
  split
  · exact ⟨_, s.diag, rfl⟩
  · split
    · exact ⟨s.marker, _, rfl⟩
    · split
      · exact ⟨s.marker, _, rfl⟩
      · obtain ⟨m, d, h⟩ := State.startTest_footprint
          { s with marker := { s.marker with queue := insertMark new s.marker.queue } } none
        exact ⟨m, d, h⟩

theorem State.markFinding_footprint (s : State) (v : Setup) (f : Finding) :
    ∃ m d, s.markFinding v f = { s with marker := m, diag := d } := by
  unfold State.markFinding
  split
  · exact ⟨s.marker, s.diag, rfl⟩
  · exact s.offerMark_footprint v _

theorem State.markMove_footprint (s : State) (dir : Direction) (before : Int) :
    ∃ m d, s.markMove dir before = { s with marker := m, diag := d } := by
  unfold State.markMove
  obtain ⟨m, d, h⟩ := State.startTest_footprint
    { s with marker := s.marker.follow dir s.travel.position }
    (if dir = .forward then some before else none)
  exact ⟨m, d, h⟩

/-! ### Record unit -/

theorem State.feedMarker_footprint (s : State) (f : Finding) :
    ∃ m d, s.feedMarker f = { s with marker := m, diag := d } := by
  unfold State.feedMarker
  split
  · exact ⟨s.marker, s.diag, rfl⟩
  · split
    · exact s.markFinding_footprint _ f
    · exact ⟨s.marker, s.diag, rfl⟩

theorem State.makeRoom_footprint (s : State) :
    ∃ r b d, s.makeRoom = { s with record := r, billet := b, diag := d } := by
  unfold State.makeRoom
  split
  · exact ⟨s.record, s.billet, s.diag, rfl⟩
  · split
    · exact ⟨s.record, s.billet, s.diag, rfl⟩
    · exact ⟨_, _, _, rfl⟩

theorem State.enterNewest_footprint (s : State) (e : Entry) :
    ∃ r b d, s.enterNewest e = { s with record := r, billet := b, diag := d } := by
  unfold State.enterNewest
  obtain ⟨r, b, d, h⟩ := s.makeRoom_footprint
  rw [h]
  exact ⟨_, b, d, rfl⟩

theorem State.enterLate_footprint (s : State) (e : Entry) :
    ∃ r b d, s.enterLate e = { s with record := r, billet := b, diag := d } := by
  unfold State.enterLate
  obtain ⟨r, b, d, h⟩ := s.makeRoom_footprint
  rw [h]
  exact ⟨_, b, d, rfl⟩

theorem State.evict_footprint (s : State) : ∃ r, s.evict = { s with record := r } := by
  unfold State.evict
  split
  · exact ⟨s.record, rfl⟩
  · exact ⟨_, rfl⟩

theorem State.commitEntry_footprint (v : Setup) (s : State) (e : Entry) :
    ∃ r b m d, State.commitEntry v s e
      = { s with record := r, billet := b, marker := m, diag := d } := by
  cases e with
  | finding f =>
    unfold State.commitEntry
    dsimp only
    split
    · rename_i entries mg _
      obtain ⟨m, d, h⟩ := State.feedMarker_footprint
        { s with record := { s.record with entries := entries } } mg
      exact ⟨_, s.billet, m, d, h⟩
    · obtain ⟨r, b, d, h⟩ := s.enterNewest_footprint (.finding f)
      obtain ⟨m, d', h'⟩ := State.feedMarker_footprint (s.enterNewest (.finding f)) f
      rw [h', h]
      exact ⟨r, b, m, d', rfl⟩
  | loss o a b =>
    obtain ⟨r, b, d, h⟩ := s.enterNewest_footprint (.loss o a b)
    exact ⟨r, b, s.marker, d, h⟩
  | gap f o a b =>
    obtain ⟨r, b, d, h⟩ := s.enterNewest_footprint (.gap f o a b)
    exact ⟨r, b, s.marker, d, h⟩

theorem commitAll_footprint (v : Setup) (es : List Entry) (s : State) :
    ∃ r b m d, es.foldl (State.commitEntry v) s
      = { s with record := r, billet := b, marker := m, diag := d } := by
  induction es generalizing s with
  | nil => exact ⟨s.record, s.billet, s.marker, s.diag, rfl⟩
  | cons e rest ih =>
    obtain ⟨r, b, m, d, h⟩ := State.commitEntry_footprint v s e
    obtain ⟨r', b', m', d', h'⟩ := ih (State.commitEntry v s e)
    rw [List.foldl_cons, h', h]
    exact ⟨r', b', m', d', rfl⟩

theorem State.commitBelow_footprint (v : Setup) (h : Int) (s : State) :
    ∃ r b m d, s.commitBelow v h
      = { s with record := r, billet := b, marker := m, diag := d } := by
  unfold State.commitBelow
  dsimp only
  obtain ⟨r, b, m, d, hc⟩ := commitAll_footprint v (s.committing h)
    { s with record := { s.record with
      pending := s.record.pending.filter fun e => !(e.start < h)
      overflow := if (s.overflowBelow h).isSome then none else s.record.overflow } }
  rw [hc]
  obtain ⟨r', he⟩ := State.evict_footprint
    { s with record := r, billet := b, marker := m, diag := d }
  exact ⟨r', b, m, d, he⟩

theorem State.toPending_footprint (s : State) (e : Entry) :
    ∃ r d, s.toPending e = { s with record := r, diag := d } := by
  unfold State.toPending
  split
  · exact ⟨_, s.diag, rfl⟩
  · exact ⟨_, _, rfl⟩

theorem State.takeLate_footprint (s : State) (e : Entry) :
    ∃ r b m d, s.takeLate e = { s with record := r, billet := b, marker := m, diag := d } := by
  cases e with
  | finding f =>
    unfold State.takeLate
    dsimp only
    obtain ⟨r, b, d, h⟩ := (s.count .late).enterLate_footprint (.finding { f with late := true })
    rw [h]
    obtain ⟨m, d', h'⟩ := State.feedMarker_footprint
      { s.count .late with record := r, billet := b, diag := d } { f with late := true }
    rw [h']
    obtain ⟨r', he⟩ := State.evict_footprint
      { { s.count .late with record := r, billet := b, diag := d } with marker := m, diag := d' }
    exact ⟨r', b, m, d', he⟩
  | loss o a z =>
    unfold State.takeLate
    dsimp only
    obtain ⟨r, b, d, h⟩ := (s.count .late).enterLate_footprint (.loss o a z)
    rw [h]
    obtain ⟨r', he⟩ := State.evict_footprint
      { s.count .late with record := r, billet := b, diag := d }
    exact ⟨r', b, s.marker, d, he⟩
  | gap f o a z =>
    unfold State.takeLate
    dsimp only
    obtain ⟨r, b, d, h⟩ := (s.count .late).enterLate_footprint (.gap f o a z)
    rw [h]
    obtain ⟨r', he⟩ := State.evict_footprint
      { s.count .late with record := r, billet := b, diag := d }
    exact ⟨r', b, s.marker, d, he⟩

theorem State.handEntry_footprint (s : State) (e : Entry) :
    ∃ r b m d, s.handEntry e = { s with record := r, billet := b, marker := m, diag := d } := by
  unfold State.handEntry
  split
  · split
    · exact ⟨s.record, s.billet, s.marker, _, rfl⟩
    · exact ⟨s.record, s.billet, s.marker, s.diag, rfl⟩
  · split
    · exact s.takeLate_footprint e
    · obtain ⟨r, d, h⟩ := s.toPending_footprint e
      exact ⟨r, s.billet, s.marker, d, h⟩

theorem State.closeGap_footprint (s : State) (face subject : Nat) (start stop : Int) :
    ∃ r, s.closeGap face subject start stop = { s with record := r } := by
  unfold State.closeGap
  split <;> exact ⟨_, rfl⟩

/-! ### Billet unit -/

theorem decideBillets_footprint (v : Setup) (bs : List Billet) (s : State) :
    ∃ x d, (decideBillets v bs s).2 = { s with xcvr := x, diag := d } := by
  induction bs generalizing s with
  | nil => exact ⟨s.xcvr, s.diag, rfl⟩
  | cons b rest ih =>
    unfold decideBillets
    split
    · rename_i tail _ _
      dsimp only
      obtain ⟨x, d, h⟩ := s.handFrame_footprint
        (toAll (s.verdictOf v b tail).test (.verdict (s.verdictOf v b tail)))
      split
      · exact ⟨x, d, h⟩
      · rw [h]
        obtain ⟨x', d', h'⟩ := ih { s with xcvr := x, diag := d }
        exact ⟨x', d', h'⟩
    · exact ih s

theorem State.verdictDecision_footprint (s : State) (v : Setup) :
    ∃ b x d, s.verdictDecision v = { s with billet := b, xcvr := x, diag := d } := by
  unfold State.verdictDecision
  split
  · obtain ⟨x, d, h⟩ := decideBillets_footprint v s.billet.billets s
    dsimp only
    rw [h]
    exact ⟨_, x, d, rfl⟩
  · exact ⟨s.billet, s.xcvr, s.diag, rfl⟩

theorem State.billetRise_footprint (s : State) (v : Setup) :
    ∃ b x d, s.billetRise v = { s with billet := b, xcvr := x, diag := d } := by
  unfold State.billetRise
  obtain ⟨b, x, d, h⟩ := State.verdictDecision_footprint
    { s with billet := { s.billet with
      billets := s.billet.billets.map (Billet.fallDue s.hz.horizon) } } v
  exact ⟨b, x, d, h⟩

theorem State.retire_footprint (s : State) :
    ∃ r b d, s.retire = { s with record := r, billet := b, diag := d } := by
  unfold State.retire
  split
  · exact ⟨s.record, s.billet, s.diag, rfl⟩
  · rename_i oldest rest _
    split
    · exact ⟨s.record, s.billet, s.diag, rfl⟩
    · split
      · obtain ⟨r, h⟩ := State.evict_footprint
          { s with billet := { s.billet with billets := rest } }
        exact ⟨r, _, s.diag, h⟩
      · split
        · exact ⟨s.record, _, s.diag, rfl⟩
        · obtain ⟨r, h⟩ := State.evict_footprint
            ({ s with billet := { s.billet with billets := rest } }.count .verdictLost)
          exact ⟨r, _, _, h⟩

theorem State.newCut_footprint (s : State) (v : Setup) (received : Bool) (number : Nat)
    (position : Int) :
    ∃ r b x d c, s.newCut v received number position
      = { s with record := r, billet := b, xcvr := x, diag := d
                 travel := { s.travel with cutCounter := c } } := by
  unfold State.newCut
  dsimp only
  obtain ⟨r, b, d, h⟩ := s.retire_footprint
  rw [h]
  split
  · obtain ⟨r', h'⟩ := State.evict_footprint
      { s with
        record := r, diag := d
        billet := { b with billets := cutTable number position s.hz.horizon b.floor b.billets }
        travel := { s.travel with
          cutCounter := if received && v.cutReporting then some number
            else s.travel.cutCounter } }
    exact ⟨r', _, s.xcvr, d, _, h'⟩
  · obtain ⟨b', x, d', h'⟩ := State.verdictDecision_footprint
      { s with
        record := r, diag := d
        billet := { b with billets := cutTable number position s.hz.horizon b.floor b.billets }
        travel := { s.travel with
          cutCounter := if received && v.cutReporting then some number
            else s.travel.cutCounter } } v
    exact ⟨r, b', x, d', _, h'⟩

theorem State.takeCut_footprint (s : State) (v : Setup) (received : Bool) (number : Nat)
    (position : Int) :
    ∃ r b x d c, s.takeCut v received number position
      = { s with record := r, billet := b, xcvr := x, diag := d
                 travel := { s.travel with cutCounter := c } } := by
  unfold State.takeCut
  split
  · split
    · exact ⟨s.record, s.billet, s.xcvr, s.diag, s.travel.cutCounter, rfl⟩
    · exact ⟨s.record, s.billet, s.xcvr, _, s.travel.cutCounter, rfl⟩
  · split
    · exact ⟨s.record, s.billet, s.xcvr, s.diag, s.travel.cutCounter, rfl⟩
    · split
      · exact ⟨s.record, s.billet, s.xcvr, _, s.travel.cutCounter, rfl⟩
      · exact s.newCut_footprint v received number position

theorem State.hearVerdict_footprint (s : State) (heard : Verdict) :
    ∃ b d, s.hearVerdict heard = { s with billet := b, diag := d } := by
  unfold State.hearVerdict
  split
  · split
    · exact ⟨s.billet, s.diag, rfl⟩
    · split
      · split
        · exact ⟨s.billet, _, rfl⟩
        · exact ⟨s.billet, s.diag, rfl⟩
      · exact ⟨_, s.diag, rfl⟩
  · exact ⟨s.billet, s.diag, rfl⟩

/-! ### Horizon unit -/

/-- A recomputation of the strand horizon writes, in the horizon unit, the strand horizon alone. -/
theorem State.recomputeHorizon_footprint (s : State) (v : Setup) :
    ∃ r b m x d, s.recomputeHorizon v
      = { s with hz := { s.hz with horizon := s.newHorizon }
                 record := r, billet := b, marker := m, xcvr := x, diag := d } := by
  unfold State.recomputeHorizon
  split
  · obtain ⟨r, b, m, d, h⟩ := State.commitBelow_footprint v s.newHorizon
      { s with hz := { s.hz with horizon := s.newHorizon } }
    rw [h]
    obtain ⟨b', x, d', h'⟩ := State.billetRise_footprint
      { s with hz := { s.hz with horizon := s.newHorizon }
               record := r, billet := b, marker := m, diag := d } v
    exact ⟨r, b', m, x, d', h'⟩
  · rename_i hn
    have he : s.newHorizon = s.hz.horizon :=
      le_antisymm (not_lt.mp hn) (le_max_left _ _)
    refine ⟨s.record, s.billet, s.marker, s.xcvr, s.diag, ?_⟩
    rw [he]

theorem State.horizonStep_footprint (s : State) (v : Setup) :
    ∃ x d, s.horizonStep v = { s with xcvr := x, diag := d } := by
  unfold State.horizonStep
  split
  · exact s.handFrame_footprint _
  · exact ⟨s.xcvr, s.diag, rfl⟩

/-- A recomputation writes, in the horizon unit, the own clear-to and the strand horizon alone. -/
theorem State.recompute_footprint (s : State) :
    ∃ own h r b m x d, s.recompute
      = { s with hz := { s.hz with ownClearTo := own, horizon := h }
                 record := r, billet := b, marker := m, xcvr := x, diag := d } := by
  unfold State.recompute
  split
  · exact ⟨_, _, s.record, s.billet, s.marker, s.xcvr, s.diag, rfl⟩
  · rename_i v _
    obtain ⟨x, d, h⟩ := State.horizonStep_footprint
      { s with hz := { s.hz with ownClearTo := s.newClearTo v } } v
    dsimp only
    rw [h]
    split
    · exact ⟨_, _, s.record, s.billet, s.marker, x, d, rfl⟩
    · obtain ⟨r, b, m, x', d', h'⟩ := State.recomputeHorizon_footprint
        { s with hz := { s.hz with ownClearTo := s.newClearTo v }, xcvr := x, diag := d } v
      exact ⟨_, _, r, b, m, x', d', h'⟩

/-- The own clear-to after a recomputation of a configured node (R81). -/
theorem State.recompute_ownClearTo (s : State) {v : Setup} (hv : s.ctl.setup = some v) :
    s.recompute.hz.ownClearTo = s.newClearTo v := by
  unfold State.recompute
  rw [hv]
  obtain ⟨x, d, h⟩ := State.horizonStep_footprint
    { s with hz := { s.hz with ownClearTo := s.newClearTo v } } v
  dsimp only
  rw [h]
  split
  · rfl
  · obtain ⟨r, b, m, x', d', h'⟩ := State.recomputeHorizon_footprint
      { s with hz := { s.hz with ownClearTo := s.newClearTo v }, xcvr := x, diag := d } v
    rw [h']

theorem State.openOwnGap_footprint (s : State) (v : Setup) :
    ∃ r b m d, s.openOwnGap v
      = { s with hz := { s.hz with ownGap := some (s.frontier v) }
                 record := r, billet := b, marker := m, diag := d } := by
  unfold State.openOwnGap
  obtain ⟨r, b, m, d, h⟩ := State.handEntry_footprint
    { s with hz := { s.hz with ownGap := some (s.frontier v) } }
    (.gap s.ctl.face s.ownId (s.frontier v) none)
  exact ⟨r, b, m, d, h⟩

theorem State.closeOwnGap_footprint (s : State) (v : Setup) :
    ∃ r, s.closeOwnGap v = { s with hz := { s.hz with ownGap := none }, record := r } := by
  unfold State.closeOwnGap
  split
  · rename_i hg
    refine ⟨s.record, ?_⟩
    rw [← hg]
  · rename_i start _
    obtain ⟨r, h⟩ := State.closeGap_footprint { s with hz := { s.hz with ownGap := none } }
      s.ctl.face s.ownId start (s.frontier v)
    exact ⟨r, h⟩

/-- The covering test writes the covering, and where it changes the own gap. -/
theorem State.coveringTest_footprint (s : State) (v : Setup) :
    ∃ g r b m d, s.coveringTest v
      = { s with ctl := { s.ctl with covering := s.isCovering }
                 hz := { s.hz with ownGap := g }
                 record := r, billet := b, marker := m, diag := d } := by
  unfold State.coveringTest
  split
  · rename_i he
    refine ⟨s.hz.ownGap, s.record, s.billet, s.marker, s.diag, ?_⟩
    rw [he]
  · dsimp only
    split
    · rename_i hc
      obtain ⟨r, h⟩ := State.closeOwnGap_footprint
        { s with ctl := { s.ctl with covering := s.isCovering } } v
      exact ⟨none, r, s.billet, s.marker, s.diag, h⟩
    · obtain ⟨r, b, m, d, h⟩ := State.openOwnGap_footprint
        { s with ctl := { s.ctl with covering := s.isCovering } } v
      exact ⟨_, r, b, m, d, h⟩

/-! ### Reference scheduler -/

theorem State.stopReference_footprint (s : State) :
    ∃ h, s.stopReference = { s with head := h } := by
  unfold State.stopReference
  split
  · exact ⟨s.head, rfl⟩
  · exact ⟨_, rfl⟩

theorem State.startCycle_footprint (s : State) (i : Fin 8) :
    ∃ h c, s.startCycle i = { s with head := h, sched := c } := ⟨_, _, rfl⟩

theorem State.startOnDue_footprint (s : State) (i : Fin 8) :
    ∃ h c, s.startOnDue i = { s with head := h, sched := c } := by
  unfold State.startOnDue
  split
  · exact s.startCycle_footprint i
  · split
    · exact ⟨s.head, s.sched, rfl⟩
    · exact s.startCycle_footprint i
  · exact ⟨s.head, s.sched, rfl⟩

theorem State.dueTest_footprint (s : State) :
    ∃ h c, s.dueTest = { s with head := h, sched := c } := by
  unfold State.dueTest
  split
  · exact ⟨s.head, s.sched, rfl⟩
  · obtain ⟨h, c, e⟩ := State.startOnDue_footprint
      { s.setSeg s.sched.pointer { s.seg s.sched.pointer with state := .due, postponed := 0 } with
        sched := { (s.setSeg s.sched.pointer
            { s.seg s.sched.pointer with state := .due, postponed := 0 }).sched with
          ticks := s.sched.ticks - 1 } } s.sched.pointer
    exact ⟨h, c, e⟩

theorem State.lineBoundary_footprint (s : State) (v : Setup) :
    ∃ h c, s.lineBoundary v = { s with head := h, sched := c } := by
  unfold State.lineBoundary
  split
  · exact ⟨s.head, s.sched, rfl⟩
  · split
    · split
      · exact ⟨s.head, _, rfl⟩
      · exact s.startCycle_footprint _
    · exact ⟨s.head, s.sched, rfl⟩

theorem State.truncateForAll_footprint (s : State) (i : Fin 8) (n : Nat) :
    ∃ h c k, s.truncateForAll i n = { s with head := h, sched := c, corr := k } := by
  unfold State.truncateForAll
  obtain ⟨h, e⟩ := s.stopReference_footprint
  rw [e]
  dsimp only
  split <;> exact ⟨_, _, _, rfl⟩

theorem State.startAll_footprint (s : State) :
    ∃ h c k, s.startAll = { s with head := h, sched := c, corr := k } := by
  unfold State.startAll
  dsimp only
  split
  · split
    · obtain ⟨h, c, k, e⟩ := s.truncateForAll_footprint _ _
      rw [e]
      exact ⟨_, _, k, rfl⟩
    · exact ⟨_, _, s.corr, rfl⟩
  · exact ⟨_, _, s.corr, rfl⟩

theorem State.truncateByFault_footprint (s : State) :
    ∃ h c k, s.truncateByFault = { s with head := h, sched := c, corr := k } := by
  unfold State.truncateByFault
  split
  · exact ⟨s.head, s.sched, s.corr, rfl⟩
  · split
    · unfold State.truncateCycle
      obtain ⟨h, e⟩ := s.stopReference_footprint
      rw [e]
      dsimp only
      split <;> exact ⟨_, _, _, rfl⟩
    · unfold State.truncateAll
      obtain ⟨h, e⟩ := s.stopReference_footprint
      rw [e]
      exact ⟨_, _, _, rfl⟩

/-! ### Tracer and corrector -/

theorem State.handFinding_footprint (s : State) (f : Finding) :
    ∃ t r b m x d, s.handFinding f
      = { s with tracer := t, record := r, billet := b, marker := m, xcvr := x, diag := d } := by
  unfold State.handFinding
  dsimp only
  obtain ⟨r, b, m, d, h⟩ := State.handEntry_footprint
    { s with tracer := { s.tracer with
      nextId := (s.tracer.nextId + 1) % 65536, made := s.tracer.made + 1 } } (.finding f)
  rw [h]
  obtain ⟨x, d', h'⟩ := State.handFrame_footprint
    { s with tracer := { s.tracer with
        nextId := (s.tracer.nextId + 1) % 65536, made := s.tracer.made + 1 }
             record := r, billet := b, marker := m, diag := d }
    (State.toStrand { s with tracer := { s.tracer with
      nextId := (s.tracer.nextId + 1) % 65536, made := s.tracer.made + 1 } } f.test
      (.finding f s.tracer.made))
  exact ⟨_, r, b, m, x, d', h'⟩

/-- A closed trace writes no slot of the trace table. -/
theorem State.takeClosed_footprint (v : Setup) (s : State) (t : Trace) :
    ∃ i n r b m x d, State.takeClosed v s t
      = { s with tracer := { s.tracer with nextId := i, made := n }
                 record := r, billet := b, marker := m, xcvr := x, diag := d } := by
  unfold State.takeClosed
  split
  · exact ⟨_, _, s.record, s.billet, s.marker, s.xcvr, s.diag, rfl⟩
  · dsimp only
    split
    · exact ⟨_, _, s.record, s.billet, s.marker, s.xcvr, _, rfl⟩
    · rename_i lo hi _ _
      unfold State.handFinding
      dsimp only
      obtain ⟨r, b, m, d, h⟩ := State.handEntry_footprint
        { s with tracer := { s.tracer with
          nextId := (s.tracer.nextId + 1) % 65536, made := s.tracer.made + 1 } }
        (.finding (s.findingOf v t lo hi))
      rw [h]
      obtain ⟨x, d', h'⟩ := State.handFrame_footprint
        { s with tracer := { s.tracer with
            nextId := (s.tracer.nextId + 1) % 65536, made := s.tracer.made + 1 }
                 record := r, billet := b, marker := m, diag := d }
        (State.toStrand { s with tracer := { s.tracer with
          nextId := (s.tracer.nextId + 1) % 65536, made := s.tracer.made + 1 } }
          (s.findingOf v t lo hi).test (.finding (s.findingOf v t lo hi) s.tracer.made))
      exact ⟨_, _, r, b, m, x, d', h'⟩

theorem State.takeAllClosed_footprint (s : State) (v : Setup) (closed : List Trace) :
    ∃ i n r b m x d, s.takeAllClosed v closed
      = { s with tracer := { s.tracer with nextId := i, made := n }
                 record := r, billet := b, marker := m, xcvr := x, diag := d } := by
  unfold State.takeAllClosed
  generalize closedOrder closed = ts
  induction ts generalizing s with
  | nil => exact ⟨_, _, s.record, s.billet, s.marker, s.xcvr, s.diag, rfl⟩
  | cons t rest ih =>
    obtain ⟨i, n, r, b, m, x, d, h⟩ := State.takeClosed_footprint v s t
    obtain ⟨i', n', r', b', m', x', d', h'⟩ := ih (State.takeClosed v s t)
    rw [List.foldl_cons, h', h]
    exact ⟨i', n', r', b', m', x', d', rfl⟩

theorem State.dropRuns_footprint (s : State) (v : Setup) (line : ProcessedLine) (n : Nat) :
    ∃ k d, s.dropRuns v line n
      = { s with hz := { s.hz with notes := k }, diag := d } := by
  unfold State.dropRuns
  split
  · exact ⟨_, s.diag, rfl⟩
  · exact ⟨_, _, rfl⟩

/-- A processed line writes, in the horizon unit, the note list alone. -/
theorem State.traceLine_footprint (s : State) (v : Setup) (line : ProcessedLine) :
    ∃ t k r b m x d, s.traceLine v line
      = { s with tracer := t, hz := { s.hz with notes := k }
                 record := r, billet := b, marker := m, xcvr := x, diag := d } := by
  unfold State.traceLine
  dsimp only
  generalize openRuns line _ _ = o
  generalize ageSlots line.blind _ _ o.1 = aged
  obtain ⟨k, d, h⟩ := s.dropRuns_footprint v line o.2
  rw [h]
  obtain ⟨i, n, r, b, m, x, d', h'⟩ := State.takeAllClosed_footprint
    { s with
      hz := { s.hz with notes := k }, diag := d
      tracer := { s.tracer with slots := aged.map (keptIn line v.linePitch v.gapLines) } } v
    (aged.filterMap (closedIn v.gapLines))
  exact ⟨_, k, r, b, m, x, d', h'⟩

/-- A forced close empties the trace table and sets the last close. -/
theorem State.closeAll_footprint (s : State) (v : Setup) (kind : CloseKind) :
    ∃ i n r b m x d, s.closeAll v kind
      = { s with tracer := { s.tracer with
                   slots := List.replicate Config.traceSlots none
                   lastClose := some { kind := kind, position := s.travel.lastLine }
                   nextId := i, made := n }
                 record := r, billet := b, marker := m, xcvr := x, diag := d } := by
  unfold State.closeAll
  dsimp only
  obtain ⟨i, n, r, b, m, x, d, h⟩ := State.takeAllClosed_footprint
    { s with tracer := { s.tracer with
      slots := List.replicate Config.traceSlots none
      lastClose := some { kind := kind, position := s.travel.lastLine } } } v
    (s.tracer.slots.filterMap fun slot => slot.map fun t =>
      { t with flags := { t.flags with
          interrupted := t.flags.interrupted || kind == .headFault } })
  exact ⟨i, n, r, b, m, x, d, h⟩

theorem State.abortBuild_footprint (s : State) :
    ∃ k, s.abortBuild = { s with corr := k } := by
  unfold State.abortBuild
  split
  · exact ⟨_, rfl⟩
  · exact ⟨s.corr, rfl⟩

theorem State.completeBuild_footprint (s : State) :
    ∃ k n, s.completeBuild = { s with corr := k, freeDraws := n } := by
  unfold State.completeBuild
  split
  · split
    · exact ⟨_, s.freeDraws, rfl⟩
    · exact ⟨_, _, rfl⟩
  · exact ⟨s.corr, s.freeDraws, rfl⟩

/-- One line at the corrector writes the build, the lines that await the tracer, the note list and the
free values drawn. -/
theorem State.correctLine_footprint (s : State) (v : Setup) (line : LineInFlight)
    (raw : List (BitVec 12)) (withheld : SegMask) :
    ∃ c a k n d, s.correctLine v line raw withheld
      = { s with corr := c, tracer := { s.tracer with awaiting := a }
                 hz := { s.hz with notes := k }, freeDraws := n, diag := d } := by
  unfold State.correctLine State.crowd
  dsimp only
  split
  · obtain ⟨c, n, h⟩ := State.completeBuild_footprint _
    rw [h]
    exact ⟨c, _, _, n, _, rfl⟩
  · obtain ⟨c, n, h⟩ := State.completeBuild_footprint _
    rw [h]
    exact ⟨c, _, _, n, s.diag, rfl⟩

end Sys2Proof.Machine
end

