-- ==== Sys2Proof/Laws/Order.lean ====
section
/-! SUPPORT. The order of entries (R131) is a total preorder on its four keys, and the insertions, removals
and closings of the record unit keep lists in it. -/

namespace Sys2Proof.Machine

/-- The four keys, each deciding where the ones before it are equal (R131). -/
theorem Entry.before_iff (a b : Entry) :
    a.before b = true ↔ a.start < b.start ∨ (a.start = b.start ∧
      (a.origin < b.origin ∨ (a.origin = b.origin ∧
        (a.kindRank < b.kindRank ∨ (a.kindRank = b.kindRank ∧ a.lastKey < b.lastKey))))) := by
  simp [Entry.before]

theorem Entry.before_false_iff (a b : Entry) :
    a.before b = false ↔ ¬ (a.start < b.start ∨ (a.start = b.start ∧
      (a.origin < b.origin ∨ (a.origin = b.origin ∧
        (a.kindRank < b.kindRank ∨ (a.kindRank = b.kindRank ∧ a.lastKey < b.lastKey)))))) := by
  rw [← Entry.before_iff, Bool.not_eq_true]

theorem Entry.before_asymm {a b : Entry} (h : a.before b = true) : b.before a = false := by
  rw [Entry.before_iff] at h
  rw [Entry.before_false_iff]
  omega

/-- "Not after" is transitive. -/
theorem Entry.notAfter_trans {a b c : Entry} (h : b.before a = false) (k : c.before b = false) :
    c.before a = false := by
  rw [Entry.before_false_iff] at *
  omega

theorem Entry.start_le_of_notAfter {a b : Entry} (h : b.before a = false) :
    a.start ≤ b.start := by
  rw [Entry.before_false_iff] at h
  omega

theorem Entry.notAfter_of_start_lt {a b : Entry} (h : a.start < b.start) :
    b.before a = false := by
  rw [Entry.before_false_iff]
  omega

/-! ### Insertion -/

theorem mem_insertEntry {x e : Entry} {l : List Entry} :
    x ∈ insertEntry e l ↔ x = e ∨ x ∈ l := by
  induction l with
  | nil => simp [insertEntry]
  | cons y rest ih =>
    unfold insertEntry
    split
    · simp
    · simp only [List.mem_cons, ih]
      tauto

theorem length_insertEntry (e : Entry) (l : List Entry) :
    (insertEntry e l).length = l.length + 1 := by
  induction l with
  | nil => rfl
  | cons y rest ih =>
    unfold insertEntry
    split
    · rfl
    · simp [ih]

theorem InOrder.insert {e : Entry} {l : List Entry} (h : InOrder l) : InOrder (insertEntry e l) := by
  induction l with
  | nil => simp [insertEntry, InOrder]
  | cons y rest ih =>
    have hy := List.pairwise_cons.mp h
    unfold insertEntry
    split
    · rename_i hb
      refine List.pairwise_cons.mpr ⟨?_, h⟩
      intro z hz
      rcases List.mem_cons.mp hz with rfl | hz
      · exact Entry.before_asymm hb
      · exact Entry.notAfter_trans (Entry.before_asymm hb) (hy.1 z hz)
    · rename_i hb
      refine List.pairwise_cons.mpr ⟨?_, ih hy.2⟩
      intro z hz
      rcases mem_insertEntry.mp hz with rfl | hz
      · exact Bool.not_eq_true _ ▸ hb
      · exact hy.1 z hz

theorem InOrder.filter {l : List Entry} (p : Entry → Bool) (h : InOrder l) :
    InOrder (l.filter p) := List.Pairwise.filter p h

theorem InOrder.tail {e : Entry} {l : List Entry} (h : InOrder (e :: l)) : InOrder l :=
  (List.pairwise_cons.mp h).2

/-- An entry not before any of a list's joins it at the newest end (R141). -/
theorem InOrder.append_one {l : List Entry} {e : Entry} (h : InOrder l)
    (hl : ∀ x ∈ l, e.before x = false) : InOrder (l ++ [e]) := by
  refine List.pairwise_append.mpr ⟨h, List.pairwise_singleton _ _, ?_⟩
  intro a ha b hb
  rw [List.mem_singleton.mp hb]
  exact hl a ha

/-! ### Closing a GAP keeps the keys (R146) -/

theorem Entry.closeAt_keys (e : Entry) (stop : Int) :
    (e.closeAt stop).start = e.start ∧ (e.closeAt stop).origin = e.origin
      ∧ (e.closeAt stop).kindRank = e.kindRank ∧ (e.closeAt stop).lastKey = e.lastKey := by
  cases e <;> exact ⟨rfl, rfl, rfl, rfl⟩

theorem length_closeFirst (face subject : Nat) (start stop : Int) (l : List Entry) :
    (closeFirst face subject start stop l).length = l.length := by
  induction l with
  | nil => rfl
  | cons e rest ih =>
    unfold closeFirst
    split
    · rfl
    · simp [ih]

/-- Every element of the list after a close has the keys of one before it. -/
theorem mem_closeFirst {face subject : Nat} {start stop : Int} {l : List Entry} {x : Entry}
    (h : x ∈ closeFirst face subject start stop l) :
    ∃ y ∈ l, x.start = y.start ∧ x.origin = y.origin ∧ x.kindRank = y.kindRank
      ∧ x.lastKey = y.lastKey := by
  induction l with
  | nil => exact absurd h (List.not_mem_nil)
  | cons e rest ih =>
    unfold closeFirst at h
    split at h
    · rcases List.mem_cons.mp h with rfl | h
      · exact ⟨e, List.mem_cons_self, e.closeAt_keys stop⟩
      · exact ⟨x, List.mem_cons_of_mem _ h, rfl, rfl, rfl, rfl⟩
    · rcases List.mem_cons.mp h with rfl | h
      · exact ⟨x, List.mem_cons_self, rfl, rfl, rfl, rfl⟩
      · obtain ⟨y, hy, hk⟩ := ih h
        exact ⟨y, List.mem_cons_of_mem _ hy, hk⟩

theorem InOrder.closeFirst {face subject : Nat} {start stop : Int} {l : List Entry}
    (h : InOrder l) : InOrder (closeFirst face subject start stop l) := by
  induction l with
  | nil => exact h
  | cons e rest ih =>
    have he := List.pairwise_cons.mp h
    unfold Machine.closeFirst
    split
    · refine List.pairwise_cons.mpr ⟨?_, he.2⟩
      intro z hz
      have hk := e.closeAt_keys stop
      have hb := he.1 z hz
      rw [Entry.before_false_iff] at *
      rw [hk.1, hk.2.1, hk.2.2.1, hk.2.2.2]
      exact hb
    · refine List.pairwise_cons.mpr ⟨?_, ih he.2⟩
      intro z hz
      obtain ⟨y, hy, h1, h2, h3, h4⟩ := mem_closeFirst hz
      have hb := he.1 y hy
      rw [Entry.before_false_iff] at *
      rw [h1, h2, h3, h4]
      exact hb

end Sys2Proof.Machine
end

