-- ==== Sys2Proof/WellFormed.lean ====
section
/-! DEFINITION. Which commands the outside world can send: a line has one value for each of the
2048 columns and a readout one for each pixel of its scope, a frame's class code is that of its row, a peer's ID is a node ID. -/

namespace Sys2Proof

/-- The class code in the first four bits of a frame (R87), absent where no character came. -/
def RxFrame.classCode (f : RxFrame) : Option Nat :=
  f.chars.head?.map fun b => b.toNat / 16

/-- One value for each column (section 2.1's table of requests). -/
def rawOk (raw : List (BitVec 12)) : Bool := raw.length == Config.columns

/-- A readout of one segment or of all (section 2.1's table of requests). -/
def readoutOk (raw : List (BitVec 12)) : Bool :=
  raw.length == Config.segColumns || raw.length == Config.columns

/-- The codes of the nine classes (R204). -/
def definedClass (code : Nat) : Bool := 1 ≤ code && code ≤ 9

/-- A command the outside world can send. Its meaning is total on the others too (logs 22, 30). -/
def Instr.wellFormed : Instr → Bool
  | .lineArrival _ _ raw _ => rawOk raw
  | .referenceReadout _ _ raw => readoutOk raw
  | .probeArrival _ _ raw _ => rawOk raw
  | .cutFrame _ f => f.classCode == some 1
  | .findingFrame _ f => f.classCode == some 2
  | .horizonFrame _ f => f.classCode == some 3
  | .verdictFrame _ f => f.classCode == some 4
  | .announceFrame _ f => f.classCode == some 5
  | .statusFrame _ f => f.classCode == some 6
  | .setupFrame _ f => f.classCode == some 7
  | .buildFrame _ f => f.classCode == some 8
  | .statusReqFrame _ f => f.classCode == some 9
  | .frameOfUndefinedClass _ f => !(f.classCode.any definedClass)
  | .silenceTimerExpiry _ peer => 1 ≤ peer && peer ≤ Config.idMax
  | .encoderTransition _ _ _ => true
  | .strandRise _ => true
  | .strandFall _ => true
  | .dropoutTimerExpiry _ => true
  | .gateChange _ _ => true
  | .cutInputEdge _ _ => true
  | .lineTimeout _ => true
  | .readoutTimeout _ => true
  | .probeTimerExpiry _ => true
  | .probeTimeout _ => true
  | .tick _ => true
  | .processedLine _ => true
  | .transmitTry _ => true
  | .arbitrationLost _ => true
  | .collision _ => true
  | .frameSentWhole _ => true
  | .horizonTimerExpiry _ => true
  | .announceTimerExpiry _ => true
  | .powerOnReset _ => true
  | .pinReset _ => true
  | .resetEnd _ _ => true
  | .newFrameBegins _ => true
  | .idleGapAfterReset _ => true

end Sys2Proof
end

