-- ==== Sys2Proof/Tests/Slice0.lean ====
section
/-! SUPPORT. The model's own tests: the smoke test of WellFormed, one step of each command on a small
state, and for every statement with hypotheses a state that meets them, clause by clause. -/

namespace Sys2Proof.Tests

set_option Elab.async false

open Sys2Proof Sys2Proof.Machine

/-! ### Small states -/

/-- Setup values like those of the manual's examples; one count is one position unit. -/
def setup : Setup where
  countsPerMetre := 10000
  linePitch := 4
  polarity := .dark
  lutCurve := .linear
  cutReporting := true
  gateUsed := true
  synthetic := false
  runThreshold := 40
  s1 := 50
  s2 := 100
  s3 := 180
  columnTolerance := 2
  gapLines := 3
  cornerZone := 64
  transverseExtent := 300
  longitudinalLength := 1000
  mergeTolerance := 50
  slipTolerance := 20
  cutTolerance := 200
  minCutSpacing := 40000
  firstCut := 501
  torchOffset := 250000
  markerOffset := 20000
  markSeverity := 2
  rejectSeverity := 3
  faceMask := 15
  minMarkLength := 150
  markMergeGap := 50
  markWindow := 2000
  referenceInterval := 60
  postponeLimit := 16
  silenceTimeout := 400
  horizonStep := 1000
  horizonPeriod := 100
  dropoutTime := 50
  coverageMinimum := 900

/-- Out of reset, after the first idle gap, with an empty transmit queue. -/
def fresh : State :=
  { State.reset with xcvr := { State.reset.xcvr with
      line := .idle, firstGap := false, queue := [], send := .empty } }

/-- A configured node at position 1003, last line position 1000. -/
def inMode (m : Mode) : State :=
  { fresh with
    nodeTime := 5000
    pins := { fresh.pins with strand := m == .inspecting }
    ctl := { fresh.ctl with
      mode := m, setup := some setup, announceTimer := none, covering := m == .inspecting }
    travel := { fresh.travel with
      count := 1003, position := 1003, highWater := 1003, lastLine := 1000
      strand := if m = .inspecting then .asserted else .clear }
    hz := { fresh.hz with
      ownClearTo := 1000, horizon := 1000
      ownGap := if m = .inspecting then none else some 1000 }
    billet := { billets := [], floor := some 1000 } }

/-- A node under reset. -/
def underReset : State := { fresh with resetting := some .pin }

/-- The state a command answers. -/
def after (c : Instr) (s : State) : State :=
  match exec c s with
  | .next t => t
  | .fault _ => s
  | .refused _ => s

/-- A frame on the line with its right head and check. -/
def frameOf (c : Nat) (sender : Nat) (address : AddressMode) (target : Nat) (body : List Byte) :
    RxFrame :=
  let head := headBytes c sender false address target false body.length
  { chars := head ++ body ++ checkBytes head body, broken := false }

/-! ### WellFormed: an ill-formed command for each check -/

theorem test_wellFormed_accepts :
    (Instr.tick 0).wellFormed = true
    ∧ (Instr.cutFrame 0 (frameOf 1 3 .strandGroup 0 [])).wellFormed = true
    ∧ (Instr.silenceTimerExpiry 0 26).wellFormed = true
    ∧ (Instr.frameOfUndefinedClass 0 { chars := [], broken := false }).wellFormed = true := by
  decide +kernel

theorem test_wellFormed_refuses_raw_values :
    (Instr.lineArrival 0 0 [1, 2] 0).wellFormed = false
    ∧ (Instr.probeArrival 0 0 [] 0).wellFormed = false
    ∧ (Instr.referenceReadout 0 0 [7]).wellFormed = false := by decide +kernel

theorem test_wellFormed_refuses_class_codes :
    (Instr.cutFrame 0 (frameOf 2 3 .strandGroup 0 [])).wellFormed = false
    ∧ (Instr.findingFrame 0 (frameOf 3 3 .strandGroup 0 [])).wellFormed = false
    ∧ (Instr.horizonFrame 0 (frameOf 4 3 .strandGroup 0 [])).wellFormed = false
    ∧ (Instr.verdictFrame 0 (frameOf 5 3 .all 0 [])).wellFormed = false
    ∧ (Instr.announceFrame 0 (frameOf 6 3 .all 0 [])).wellFormed = false
    ∧ (Instr.statusFrame 0 (frameOf 7 3 .individual 1 [])).wellFormed = false
    ∧ (Instr.setupFrame 0 (frameOf 8 3 .individual 1 [])).wellFormed = false
    ∧ (Instr.buildFrame 0 (frameOf 9 3 .individual 1 [])).wellFormed = false
    ∧ (Instr.statusReqFrame 0 (frameOf 1 3 .individual 1 [])).wellFormed = false
    ∧ (Instr.frameOfUndefinedClass 0 (frameOf 9 3 .all 0 [])).wellFormed = false := by
  decide +kernel

theorem test_wellFormed_refuses_peers :
    (Instr.silenceTimerExpiry 0 0).wellFormed = false
    ∧ (Instr.silenceTimerExpiry 0 27).wellFormed = false := by decide +kernel

/-- No row of the table has bits, so no word spells a command. -/
theorem test_no_word_spells_a_command :
    decodeTableWord 16 0x1234 = none ∧ (fresh.withFetchWord 16 0x1234).pending = [] := by
  decide +kernel

/-! ### The check of a frame -/

/-- The register of the empty frame, and one shift through the generator (R87). -/
theorem test_crc : crc [] = 0xFFFF#16 ∧ crcShift 0x8000#16 = 0x8005#16
    ∧ crcShift 0x4001#16 = 0x8002#16 := by decide +kernel

/-! ### Larger states -/

def insp : State := inMode .inspecting

/-- The count, and what hangs on it, at `n` with the high-water at `high` and the last line at `last`. -/
def placed (n high last : Int) (s : State) : State :=
  { s with travel := { s.travel with
      count := n, position := n, highWater := high, lastLine := last } }

def aTrace : Trace where
  first := 996
  last := 1000
  spanLo := 410
  spanHi := 413
  extent := some (405, 415)
  peak := 88
  lines := 4
  idle := 0
  flags := {}

/-- One open trace in slot 3, another of `second` in slot 9. -/
def tracing (second : Option Trace) : State :=
  { insp with tracer := { insp.tracer with
      slots := List.replicate 3 none ++ [some aTrace] ++ List.replicate 5 none ++ [second]
        ++ List.replicate 22 none } }

def aFinding : Finding where
  origin := 3
  id := 7
  face := 0
  cls := .minor
  severity := 1
  start := 900
  stop := 950
  colMin := 10
  colMax := 20
  peak := 70
  lines := 5
  flags := {}

def aPeer : Peer where
  id := 3
  face := some 1
  state := .live
  lastHeard := 4900
  offset := some 100
  clearTo := some 1000
  covering := true
  nextId := some 120
  openGap := none
  silenceDue := some 5300

def withPeer (p : Peer) (s : State) : State := { s with hz := { s.hz with peers := [p] } }

def aLine (tag : BitVec 8) : LineInFlight :=
  { position := 1000, tag := tag, blind := 0, requestedAt := 4990 }

def withLine (tag : BitVec 8) (s : State) : State :=
  { s with head := { s.head with line := some (aLine tag) } }

/-- A reference of a scope with `taken` readouts, due at 5020. -/
def withReference (scope : Scope) (taken width : Nat) (s : State) : State :=
  { s with
    head := { s.head with
      reference := some { scope := scope, tag := 9, taken := taken, due := 5020 } }
    sched := { s.sched with accum := List.replicate width 100, allRunning := scope == .all } }

/-- Two billets, the older with its tail. -/
def withBillets (s : State) : State :=
  { s with billet := { s.billet with billets := [
      { number := 739, head := 1110000, tail := some 1200000, state := .cut, truncated := false
        verdictSent := false, sent := none },
      { number := 740, head := 1200000, tail := none, state := .opened, truncated := false
        verdictSent := false, sent := none }] } }

/-- A HORIZON frame in the queue, and its note. -/
def withHorizon (send : SendState) (s : State) : State :=
  let t := { s with
    xcvr := { s.xcvr with
      queue := [{ address := .strandGroup, target := 0, test := false, body := .horizon }]
      send := send
      line := if send = .sending then .busy else .idle }
    hz := { s.hz with
      notes := [{ start := 1000, stop := 1000 }]
      inDelivery := if send = .sending then some { start := 1000, stop := 1000 } else none } }
  if send = .sending then
    { t with xcvr := { t.xcvr with
        taken := some (t.takeCopy { address := .strandGroup, target := 0, test := false
                                    body := .horizon }) } }
  else t

/-- A node in the middle of its work: a trace, a peer, two billets, a HORIZON being sent, an active mark
and one waiting, entries in both lists. -/
def busy : State :=
  let s := withHorizon .sending (withBillets (withPeer aPeer (tracing none)))
  { s with
    pending := [.encoderTransition 1 false true]
    record := { s.record with
      pending := [.loss 3 1000 1004, .gap 1 3 1002 none]
      entries := [.finding aFinding, .loss 3 990 994] }
    marker := { s.marker with
      active := some { start := 990, stop := 1100 }, output := .on, history := [4000]
      queue := [{ start := 1200, stop := 1300 }, { start := 1400, stop := 1500 }] } }

/-! ### The invariants hold in a busy state -/

/-- `TravelInv` under a setup, for deciding. -/
theorem travelInv_of (s : State) (v : Setup) (h : s.ctl.setup = some v)
    (k : -Config.countMax - 1 ≤ s.travel.count ∧ s.travel.count ≤ Config.countMax
      ∧ s.travel.position = positionOf (some v) s.travel.count ∧ 1 ≤ v.linePitch
      ∧ 0 ≤ s.travel.highWater ∧ s.travel.position ≤ s.travel.highWater
      ∧ s.travel.lastLine ≤ s.travel.highWater ∧ (v.linePitch : Int) ∣ s.travel.lastLine) :
    TravelInv s := by
  unfold TravelInv
  rw [h]
  exact k

theorem traceInv_of (s : State) (v : Setup) (h : s.ctl.setup = some v)
    (a : ∀ line ∈ s.tracer.awaiting, ∀ r ∈ line.runs, r.lo ≤ r.hi ∧ r.hi < 2048)
    (k : ∀ slot ∈ s.tracer.slots, ∀ t ∈ slot, t.idle ≤ v.gapLines ∧ t.lines ≤ 4095
      ∧ t.spanLo ≤ t.spanHi ∧ t.spanHi < 2048) :
    TraceInv s := by
  unfold TraceInv
  rw [h]
  exact ⟨a, k⟩

theorem test_busy_capacities : CapacityInv busy := by unfold CapacityInv; decide +kernel

theorem test_busy_record : RecordInv busy ∧ busy.record.pending.length = 2 := by
  unfold RecordInv InOrder; decide +kernel

theorem test_busy_horizons : HorizonInv busy ∧ busy.endsReset = false := by
  unfold HorizonInv; decide +kernel

theorem test_busy_send : SendInv busy ∧ busy.hz.inDelivery.isSome = true := by
  unfold SendInv; decide +kernel

theorem test_busy_modes : ModesInv busy := by
  unfold ModesInv CoveringInv PortInv BlindInv; decide +kernel

theorem test_busy_travel : TravelInv busy := travelInv_of busy setup rfl (by decide +kernel)

theorem test_busy_counters : CounterInv busy := by
  intro c
  cases c <;> decide +kernel

theorem test_busy_gains : GainInv busy := by
  intro g h
  have e : g = 1024 := List.eq_of_mem_replicate h
  omega

theorem test_busy_traces : TraceInv busy ∧ busy.tracer.slots[3]? = some (some aTrace) :=
  ⟨traceInv_of busy setup rfl (by decide +kernel) (by decide +kernel), by decide +kernel⟩

theorem test_busy_corrector : CorrectorInv busy := by unfold CorrectorInv; decide +kernel

theorem test_busy_billets_and_marks : BilletInv busy ∧ MarkerInv busy := by
  unfold BilletInv MarkerInv; decide +kernel

/-- What the statements ask of every step: the busy state takes one. -/
theorem test_busy_steps : ∃ t, step busy = .next t := ⟨_, rfl⟩

/-- A step that ends a reset, which the statements set apart. -/
theorem test_a_reset_ends :
    { underReset with pending := [.resetEnd 0 ⟨.low, .low, .high, false, false, true, true, false⟩]
      }.endsReset = true := by decide +kernel

/-! ### Hypotheses of the statements, clause by clause: the machine and travel -/

theorem test_hyp_StepRunsTheFrontCommand : fresh.pending = [] := rfl

theorem test_hyp_OnlyInputLevelsFollowDuringAReset :
    underReset.resetting.isSome = true ∧ ofReset (.gateChange 0 true) = false
    ∧ underReset.nodeTime ≤ 2 ^ 48 - 1 := by decide +kernel

/-- Both ends of the range of a position, and a plain one. -/
theorem test_hyp_PositionsAreRoundedDown :
    1 ≤ setup.countsPerMetre
    ∧ (-1 : Int) * setup.countsPerMetre ≤ (-1) * 10000
    ∧ (-1 : Int) * 10000 < (-1 + 1) * setup.countsPerMetre
    ∧ (2 ^ 31 : Int) * setup.countsPerMetre ≤ 2 ^ 31 * 10000
    ∧ positionOf (some setup) (2 ^ 31) = 2 ^ 31 - 1
    ∧ positionOf (some setup) (-(2 ^ 31) - 1) = -(2 ^ 31)
    ∧ positionOf (some setup) (-1) = -1 ∧ floorTo 4 (-1) = -4 := by decide +kernel

theorem test_hyp_EncoderStepsMoveTheCount :
    TravelInv insp
    ∧ insp.resetting = none ∧ (insp.travel.phase, (false, true)) ∈ forwardSteps
    ∧ ((true, false), insp.travel.phase) ∈ forwardSteps
    ∧ insp.travel.phase = (false, false)
    ∧ (true ≠ insp.travel.phase.1 ∧ true ≠ insp.travel.phase.2) :=
  ⟨travelInv_of insp setup rfl (by decide +kernel), by decide +kernel⟩

/-- The count at its limit: the phase moves, the count stays. -/
theorem test_the_count_stays_at_its_limit :
    (after (.encoderTransition 0 false true) (placed (2 ^ 47 - 1) 5 4 fresh)).travel.count
      = 2 ^ 47 - 1
    ∧ (after (.encoderTransition 0 false true) (placed (2 ^ 47 - 1) 5 4 fresh)).travel.phase
      = (false, true) := by decide +kernel

/-- The gate input high: the gate SHUT, covering over. -/
def shut (s : State) : State :=
  { s with
    pins := { s.pins with gate := true }
    ctl := { s.ctl with covering := false }
    travel := { s.travel with gate := .shut }
    hz := { s.hz with ownGap := some 1000 } }

/-- Due at one pitch exactly, requested or overrun; one count short of it; the gate SHUT. -/
theorem test_hyp_ForwardTransitionsMakeLinesDue :
    TravelInv insp ∧ TravelInv (withLine 5 insp) ∧ TravelInv (placed 1002 1003 1000 insp)
    ∧ TravelInv (shut insp)
    ∧ (insp.resetting = none ∧ insp.ctl.setup = some setup
      ∧ (insp.travel.phase, (false, true)) ∈ forwardSteps ∧ insp.travel.count < 2 ^ 47 - 1
      ∧ positionOf (some setup) (insp.travel.count + 1) = 1004 ∧ 1004 ≠ insp.travel.position
      ∧ insp.ctl.mode = .inspecting ∧ insp.travel.strand = .asserted
      ∧ insp.travel.gate = .opened ∧ insp.travel.lastLine + setup.linePitch ≤ 1004
      ∧ insp.head.line = none)
    ∧ (withLine 5 insp).head.line ≠ none
    ∧ positionOf (some setup) ((placed 1002 1003 1000 insp).travel.count + 1) = 1003
    ∧ 1003 < (placed 1002 1003 1000 insp).travel.lastLine + (setup.linePitch : Int)
    ∧ (shut insp).travel.gate = .shut ∧ (shut insp).travel.highWater < 1004 :=
  ⟨travelInv_of _ setup rfl (by decide +kernel), travelInv_of _ setup rfl (by decide +kernel),
    travelInv_of _ setup rfl (by decide +kernel), travelInv_of _ setup rfl (by decide +kernel),
    by decide +kernel⟩

/-- The example of section 1.3: a line falls due at 1004 and is requested. -/
theorem test_a_line_falls_due :
    (after (.encoderTransition 3 false true) insp).travel.lastLine = 1004
    ∧ (after (.encoderTransition 3 false true) insp).head.line
      = some { position := 1004, tag := 0, blind := 0, requestedAt := 5003 }
    ∧ (after (.encoderTransition 3 false true) (withLine 5 insp)).counter .lineOverrun = 1 := by
  decide +kernel

theorem test_hyp_GateChangesOpenAndShutCovering :
    CoveringInv insp ∧ CoveringInv (shut insp) ∧ CoveringInv (inMode .waiting)
    ∧ insp.travel.gate = .opened ∧ (shut insp).travel.gate = .shut
    ∧ (inMode .waiting).ctl.mode ≠ .inspecting ∧ insp.ctl.setup.any Setup.gateUsed = true := by
  unfold CoveringInv; decide +kernel

/-- The gate shuts and opens again: the own GAP stands between. -/
theorem test_gate_change :
    (after (.gateChange 0 true) insp).hz.ownGap = some 1000
    ∧ (after (.gateChange 0 true) insp).ctl.covering = false
    ∧ (after (.gateChange 0 false) (shut insp)).hz.ownGap = none
    ∧ (after (.gateChange 0 false) (shut insp)).ctl.covering = true := by decide +kernel

/-- Strand-present low before SETUP. -/
def strandHigh : State :=
  { fresh with
    pins := { fresh.pins with strand := true }, travel := { fresh.travel with strand := .asserted } }

/-- The raw input low, the dropout timer running. -/
def dropping (s : State) : State :=
  { s with
    pins := { s.pins with strand := false }, travel := { s.travel with dropout := some 5050 } }

theorem test_hyp_StrandPresentRisesAndFalls :
    CoveringInv insp ∧ CoveringInv (dropping insp) ∧ CoveringInv (inMode .waiting)
    ∧ CoveringInv (inMode .referencing) ∧ CoveringInv strandHigh
    ∧ insp.pins.strand = true ∧ insp.travel.strand = .asserted ∧ insp.ctl.setup = some setup
    ∧ (dropping insp).pins.strand = false ∧ (dropping insp).travel.strand = .asserted
    ∧ (inMode .waiting).pins.strand = false ∧ (inMode .waiting).travel.strand = .clear
    ∧ (inMode .waiting).ctl.mode = .waiting ∧ (inMode .referencing).ctl.mode ≠ .waiting
    ∧ (inMode .referencing).travel.strand = .clear ∧ (inMode .referencing).pins.strand = false
    ∧ strandHigh.pins.strand = true ∧ strandHigh.ctl.setup = none
    ∧ { strandHigh with travel := fresh.travel }.travel.strand = .clear := by
  unfold CoveringInv; decide +kernel

theorem test_strand_rise_and_fall :
    (after (.strandRise 0) (inMode .waiting)).ctl.mode = .inspecting
    ∧ (after (.strandRise 0) (inMode .waiting)).ctl.covering = true
    ∧ (after (.strandFall 2) insp).travel.dropout = some 5052
    ∧ (after (.strandFall 0) strandHigh).travel.strand = .clear := by decide +kernel

/-- One millisecond before the due time, the due time, the raw input back, another mode. -/
theorem test_hyp_DropoutEndsTheStrand :
    (dropping insp).resetting = none ∧ (dropping insp).travel.dropout = some 5050
    ∧ (dropping insp).ctl.setup = some setup
    ∧ ((dropping insp).begin 49).nodeTime < 5050 ∧ 5050 ≤ ((dropping insp).begin 50).nodeTime
    ∧ (dropping insp).pins.strand = false ∧ (dropping insp).ctl.mode = .inspecting
    ∧ (dropping (inMode .headFault)).ctl.mode ≠ .inspecting
    ∧ { dropping insp with pins := insp.pins }.pins.strand = true := by decide +kernel

theorem test_strand_end :
    (after (.dropoutTimerExpiry 50) (dropping (tracing none))).ctl.mode = .referencing
    ∧ (after (.dropoutTimerExpiry 50) (dropping (tracing none))).tracer.nextId = 1
    ∧ (after (.dropoutTimerExpiry 50) (dropping (tracing none))).tracer.lastClose
      = some { kind := .strandEnd, position := 1000 } := by decide +kernel

/-! ### Cuts -/

/-- The last own cut at `last`, the counter at `k`, the position at 1300000. -/
def cutting (k : Option Nat) (last : Option Int) : State :=
  let s := placed 1300000 1300000 1300000 insp
  { s with travel := { s.travel with cutCounter := k, lastCut := last } }

/-- No rising edge; a bounce one position short of the spacing, an own cut at the spacing; no number
left, the last number, the first. -/
theorem test_hyp_CutEdgesMakeOwnCuts :
    (cutting none none).resetting = none ∧ (cutting none none).ctl.setup = some setup
    ∧ (cutting none none).travel.cutLevel = false ∧ setup.cutReporting = true
    ∧ max (-(2 ^ 31)) ((cutting none none).travel.position - setup.torchOffset) = 1050000
    ∧ (false && !(cutting none none).travel.cutLevel
        && (cutting none none).ctl.setup.any Setup.cutReporting) = false
    ∧ (∃ last ∈ (cutting none (some 1010001)).travel.lastCut, |1050000 - last| < (40000 : Int))
    ∧ (∀ last ∈ (cutting none (some 1010000)).travel.lastCut, (40000 : Int) ≤ |1050000 - last|)
    ∧ (cutting (some (2 ^ 31 - 1)) none).travel.cutCounter = some (2 ^ 31 - 1)
    ∧ (cutting (some (2 ^ 31 - 2)) none).travel.cutCounter = some (2 ^ 31 - 1 - 1)
    ∧ (cutting none none).travel.cutCounter = none := by decide +kernel

/-- The example of section 1.6: the first own cut is 501 at 1050000; the next, out of the input, a
bounce. -/
theorem test_own_cut :
    (after (.cutInputEdge 0 true) (cutting none none)).travel.cutCounter = some 501
    ∧ (after (.cutInputEdge 0 true) (cutting none none)).travel.lastCut = some 1050000
    ∧ (after (.cutInputEdge 0 true) (cutting none none)).xcvr.queue
      = [{ address := .strandGroup, target := 0, test := false, body := .cut 501 1050000 }]
    ∧ (after (.cutInputEdge 0 true) (cutting (some 501) (some 1049980))).counter .cutBounce
      = 1 := by decide +kernel

def billets : State := withBillets insp

/-- A duplicate by head at 199 with the same and another number, a head at 200 and a tail at 199 (the
example's first tail where its next billet is gone), out of order either way, and new cuts. -/
theorem test_hyp_CutsAreJudgedAgainstTheTable :
    BilletInv billets ∧ billets.ctl.setup = some setup
    ∧ (∃ b ∈ billets.billet.billets, |1200199 - b.head| < (200 : Int)
        ∧ (∀ c ∈ billets.billet.billets, |1200199 - b.head| < |1200199 - c.head|
          ∨ |1200199 - b.head| = |1200199 - c.head| ∧ b.head ≤ c.head) ∧ b.number = 740)
    ∧ (∀ b ∈ billets.billet.billets, (200 : Int) ≤ |1200200 - b.head|)
    ∧ (∀ b ∈ billets.billet.billets, ∀ q ∈ b.tail, (200 : Int) ≤ |1200200 - q|)
    ∧ (∀ b ∈ billets.billet.billets.getLast?, b.head ≤ 1200200 ∧ b.number < 741)
    ∧ (∃ b ∈ billets.billet.billets.getLast?, (1000000 : Int) < b.head ∨ 741 ≤ b.number)
    ∧ (∃ b ∈ billets.billet.billets.getLast?, (1200200 : Int) < b.head ∨ 740 ≤ b.number)
    ∧ (∀ b ∈ insp.billet.billets.getLast?, b.head ≤ (5 : Int) ∧ b.number < 1)
    ∧ BilletInv insp := by
  unfold BilletInv; decide +kernel

/-- Billets 739 and 741, the one between retired: 739 keeps the tail that 740 gave it. -/
def retiredBetween : State :=
  { insp with billet := { insp.billet with billets := [
      { number := 739, head := 1110000, tail := some 1200000, state := .reported, truncated := false
        verdictSent := false, sent := none },
      { number := 741, head := 1290050, tail := none, state := .opened, truncated := false
        verdictSent := false, sent := none }] } }

theorem test_hyp_a_cut_at_a_held_tail :
    BilletInv retiredBetween
    ∧ (∀ b ∈ retiredBetween.billet.billets, (200 : Int) ≤ |1200199 - b.head|)
    ∧ (∃ b ∈ retiredBetween.billet.billets, ∃ q ∈ b.tail, |1200199 - q| < (200 : Int)) := by
  unfold BilletInv; decide +kernel

/-- A full table: sixteen billets 100 apart; the states of the oldest, of the third and of the rest. -/
def fullTable (oldest third : BilletState) : State :=
  { insp with billet := { insp.billet with
      billets := (List.range 16).map fun i => {
        number := i + 1, head := 1000 + 1000 * (i : Int)
        tail := if i = 15 then none else some (2000 + 1000 * (i : Int))
        state := if i = 0 then oldest else if i = 2 then third else .opened
        truncated := false, verdictSent := false, sent := none } } }

theorem test_hyp_a_cut_at_a_full_table :
    BilletInv (fullTable .reported .opened) ∧ BilletInv (fullTable .opened .reported)
    ∧ BilletInv (fullTable .opened .opened)
    ∧ 16 ≤ (fullTable .opened .opened).billet.billets.length
    ∧ (∀ b ∈ (fullTable .opened .opened).billet.billets, (200 : Int) ≤ |17000 - b.head|)
    ∧ (∀ b ∈ (fullTable .opened .opened).billet.billets, ∀ q ∈ b.tail, (200 : Int) ≤ |17000 - q|)
    ∧ (∀ b ∈ (fullTable .opened .opened).billet.billets.getLast?,
        b.head ≤ 17000 ∧ b.number < 17)
    ∧ (∀ b ∈ (fullTable .opened .opened).billet.billets.dropLast, b.state ≠ .reported)
    ∧ (fullTable .opened .reported).billet.billets.tail.map Billet.state
      = [.opened] ++ .reported :: List.replicate 13 .opened := by
  unfold BilletInv; decide +kernel

/-- The oldest REPORTED, the third REPORTED, none. -/
theorem test_a_full_table_retires :
    ((fullTable .reported .opened).takeCut setup true 17 17000).billet.billets.map Billet.number
      = (List.range 16).map (· + 2)
    ∧ ((fullTable .opened .reported).takeCut setup true 17 17000).billet.billets.map Billet.number
      = [1, 2] ++ (List.range 14).map (· + 4)
    ∧ ((fullTable .opened .opened).takeCut setup true 17 17000).counter .verdictLost = 1 := by
  decide +kernel

/-- The example of section 8.3: a new cut, the same cut again, and two out of order. -/
theorem test_cuts_against_the_table :
    (billets.takeCut setup true 741 1290050).billet.billets.map Billet.number = [739, 740, 741]
    ∧ ((billets.takeCut setup true 741 1290050).takeCut setup true 741 1290110).flag .cutConflict
      = false
    ∧ ((billets.takeCut setup true 741 1290050).takeCut setup true 742 1290120).flag .cutConflict
      = true
    ∧ ((billets.takeCut setup true 741 1290050).takeCut setup true 740 1380000).flag .cutConflict
      = true := by decide +kernel

/-! ### The sensor head -/

/-- A readout of raw value 0 in every column. -/
def zeros (n : Nat) : List (BitVec 12) := List.replicate n 0

/-- The first segment with a dark streak of one column in every fourteen: 19 streaks; the rest even. -/
def streaks : List (BitVec 12) :=
  (List.range 256).map (fun p => if p % 14 = 0 then 1000 else 1700) ++ List.replicate 1792 1700

/-- All segments but the first withheld, and all of them. -/
def allButFirst : SegMask := 0xFE
def allSegments : SegMask := 0xFF

/-- The runs of a line of the test setup with the tables of a reset. -/
def runsOf (blind : SegMask) (raw : List (BitVec 12)) : List Run :=
  lineRuns setup (lineContrasts setup blind 1000 (rawValues 2048 raw) insp.corr.dark insp.corr.gain)

/-- A BUSY build of which `lines` of 16 lines stand, each with one sample of 1600 at every pixel. -/
def building (lines : Nat) (s : State) : State :=
  { s with corr := { s.corr with
      build := .busy, target := some 16, lines := lines
      sums := List.replicate 2048 (1600 * (lines : Int)), samples := List.replicate 2048 lines } }

theorem test_the_streaks_are_crowded : 16 < (runsOf allButFirst streaks).length := by
  decide +kernel

theorem test_no_run_where_all_is_withheld : runsOf allSegments (zeros 2048) = [] := by
  decide +kernel

theorem test_hyp_CurrentLinesAreHandedOn :
    (withLine 5 insp).resetting = none ∧ (withLine 5 insp).ctl.setup = some setup
    ∧ (withLine 5 insp).head.line = some (aLine 5) ∧ (aLine 5).tag = 5
    ∧ (aLine 5).blind ||| allButFirst = allButFirst
    ∧ (withLine 5 insp).ctl.mode = .inspecting ∧ (withLine 5 (inMode .waiting)).ctl.mode ≠ .inspecting
    ∧ (withLine 5 insp).corr.build ≠ .busy
    ∧ (building 1 (withLine 5 insp)).corr.build = .busy
    ∧ (building 1 (withLine 5 insp)).corr.target = some 16
    ∧ (building 1 (withLine 5 insp)).corr.target
      ≠ some ((building 1 (withLine 5 insp)).corr.lines + 1)
    ∧ (building 15 (withLine 5 insp)).corr.target
      = some ((building 15 (withLine 5 insp)).corr.lines + 1) := by decide +kernel

/-- A build at its last line, with one sum and one sample count for every pixel. -/
def lastOfBuild (sum : Int) (samples : Nat) : State :=
  let s := building 15 (withLine 5 insp)
  { s with corr := { s.corr with
      sums := List.replicate 2048 sum, samples := List.replicate 2048 samples } }

theorem test_hyp_the_tables_of_a_build :
    CorrectorInv (withLine 5 insp) ∧ CorrectorInv (building 1 (withLine 5 insp))
    ∧ CorrectorInv (lastOfBuild 24000 15) ∧ CorrectorInv (lastOfBuild 0 15)
    ∧ CorrectorInv (lastOfBuild 0 0) := by
  unfold CorrectorInv; decide +kernel

theorem getD_replicate {α : Type} (m p : Nat) (x d : α) (h : p < m) :
    (List.replicate m x).getD p d = x := by simp [h]

/-- With every column withheld the samples of the last line are those before it: fifteen, or none. -/
theorem test_hyp_the_samples_of_a_build (p : Nat) (h : p < 2048) (sum : Int) (n : Nat) :
    allSegments.getLsbD (p / 256) = true
    ∧ (lastOfBuild sum n).corr.samples.getD p 0 = n
    ∧ (lastOfBuild sum n).corr.sums.getD p 0 = sum := by
  refine ⟨?_, ?_, ?_⟩
  · have : p / 256 < 8 := by omega
    interval_cases p / 256 <;> rfl
  · exact getD_replicate _ _ n 0 h
  · exact getD_replicate _ _ sum 0 h

/-- The arrival of a line hands it on; the completing line of a build installs its table. -/
theorem test_line_arrival :
    (after (.lineArrival 0 5 streaks allButFirst) (withLine 5 insp)).counter .runOverflow = 1
    ∧ (after (.lineArrival 0 5 streaks allButFirst) (withLine 5 insp)).hz.notes
      = [{ start := 1000, stop := 1000 }]
    ∧ (after (.lineArrival 0 5 streaks allButFirst) (withLine 5 insp)).head.line = none := by
  decide +kernel

theorem test_a_build_completes :
    (after (.lineArrival 0 5 (zeros 2048) allSegments)
      (building 15 (withLine 5 insp))).corr.build = .done
    ∧ (after (.lineArrival 0 5 (zeros 2048) allSegments) (lastOfBuild 0 15)).corr.build
      = .aborted := by decide +kernel

def probing : State :=
  let s := inMode .headFault
  { s with head := { s.head with
      timeouts := 16, probe := some { tag := 7, requestedAt := 4980 }, probeTimer := some 5020 } }

theorem test_hyp_StaleAnswersOnlyClearTheTimeouts :
    (withLine 5 insp).resetting = none
    ∧ (∀ l ∈ (withLine 5 insp).head.line, l.tag ≠ 6) ∧ (∀ p ∈ (withLine 5 insp).head.probe, p.tag ≠ 6)
    ∧ (∀ p ∈ probing.head.probe, p.tag ≠ 6) ∧ (∀ l ∈ probing.head.line, l.tag ≠ 6)
    ∧ (∀ r ∈ (withReference .all 3 2048 insp).head.reference, r.tag ≠ 6) := by decide +kernel

theorem test_stale_arrivals :
    (after (.lineArrival 0 6 [] 0) { probing with head := { probing.head with probe := none } }
      ).head.timeouts = 16
    ∧ (after (.referenceReadout 0 6 []) { insp with head := { insp.head with timeouts := 3 } }
      ).head.timeouts = 0 := by decide +kernel

/-- One millisecond short of 20, 20, and the count one short of the sixteenth. -/
theorem test_hyp_LineTimeoutsLeaveANote :
    (withLine 5 insp).resetting = none ∧ (withLine 5 insp).ctl.setup = some setup
    ∧ (withLine 5 insp).head.line = some (aLine 5)
    ∧ ((withLine 5 insp).begin 9).nodeTime < (aLine 5).requestedAt + 20
    ∧ (aLine 5).requestedAt + 20 ≤ ((withLine 5 insp).begin 10).nodeTime
    ∧ { withLine 5 insp with head := { (withLine 5 insp).head with timeouts := 14 } }.head.timeouts
      < 15 := by decide +kernel

theorem test_line_timeout :
    (after (.lineTimeout 10) (withLine 5 insp)).counter .lineTimeout = 1
    ∧ (after (.lineTimeout 10) (withLine 5 insp)).hz.notes = [{ start := 1000, stop := 1000 }]
    ∧ (after (.lineTimeout 9) (withLine 5 insp)).counter .lineTimeout = 0 := by decide +kernel

/-- Fifteen timeouts have gone before. -/
def faulting (s : State) : State := { s with head := { s.head with timeouts := 15 } }

theorem test_hyp_SixteenTimeoutsEnterHeadFault :
    (faulting insp).resetting = none ∧ (faulting insp).ctl.setup = some setup
    ∧ (faulting insp).head.timeouts = 15
    ∧ (insp.ctl.mode = .inspecting ∧ (inMode .referencing).ctl.mode = .referencing
      ∧ (inMode .waiting).ctl.mode = .waiting)
    ∧ (∃ l ∈ (withLine 5 (faulting insp)).head.line,
        l.requestedAt + 20 ≤ ((withLine 5 (faulting insp)).begin 10).nodeTime)
    ∧ (∃ r ∈ (withReference .all 3 2048 (faulting (inMode .referencing))).head.reference,
        r.due ≤ ((faulting (inMode .referencing)).begin 20).nodeTime)
    ∧ (inMode .waiting).ctl.covering = false ∧ insp.ctl.covering = true
    ∧ (faulting insp).head.reference = none := by decide +kernel

/-- A cycle of segment 2 under a line in flight, and a covering node with an open trace whose finding is
kept. -/
theorem test_hyp_what_head_fault_cuts_short :
    (∃ r ∈ (withReference (.segment 2) 9 256 (withLine 5 (faulting insp))).head.reference,
      r.scope = .segment 2)
    ∧ HorizonInv (withLine 5 (faulting (tracing none)))
    ∧ (withLine 5 (faulting (tracing none))).hz.ownClearTo
      ≤ (after (.lineTimeout 10) (withLine 5 (faulting (tracing none)))).frontier setup
    ∧ (tracing none).record.pending.length + (tracing none).tracer.slots.countP Option.isSome < 64
    ∧ (tracing none).xcvr.queue.length + (tracing none).tracer.slots.countP Option.isSome ≤ 16
    ∧ some aTrace ∈ (tracing none).tracer.slots ∧ aTrace.extent = some (405, 415)
    ∧ ((tracing none).findingOf setup aTrace 405 415).severity ≠ 0 := by
  unfold HorizonInv; decide +kernel

theorem test_head_fault_closes_traces :
    ((after (.lineTimeout 10) (withLine 5 (faulting (tracing none)))).xcvr.queue.filterMap
      fun f => match f.body with | .finding g _ => some g.flags.interrupted | _ => none)
      = [true] := by decide +kernel

theorem test_head_fault :
    (after (.lineTimeout 10) (withLine 5 (faulting insp))).ctl.mode = .headFault
    ∧ (after (.lineTimeout 10) (withLine 5 (faulting insp))).flag .headFault = true
    ∧ (after (.lineTimeout 10) (withLine 5 (faulting insp))).head.probeTimer = some 5110
    ∧ (after (.lineTimeout 10) (withLine 5 (faulting insp))).hz.ownGap.isSome = true := by
  decide +kernel

/-- A cycle of segment 2 in WAITING, and the all-segment reference. -/
def cycle (taken : Nat) : State :=
  let s := withReference (.segment 2) taken 256 (inMode .waiting)
  { s with sched := { s.sched with pointer := 2 } }

def allReference (taken : Nat) : State :=
  withReference .all taken 2048 (inMode .referencing)

theorem test_hyp_ReadoutsAreAccumulated :
    (cycle 14).resetting = none
    ∧ (cycle 14).head.reference = some { scope := .segment 2, tag := 9, taken := 14, due := 5020 }
    ∧ (14 : Nat) < 15 ∧ (zeros 256).length = (cycle 14).sched.accum.length
    ∧ (zeros 2048).length = (allReference 0).sched.accum.length := by decide +kernel

theorem test_hyp_TheSixteenthReadoutEndsTheReference :
    (cycle 15).resetting = none
    ∧ (cycle 15).head.reference = some { scope := .segment 2, tag := 9, taken := 15, due := 5020 }
    ∧ (zeros 256).length = (cycle 15).sched.accum.length
    ∧ (allReference 15).head.reference = some { scope := .all, tag := 9, taken := 15, due := 5020 }
    ∧ (zeros 2048).length = (allReference 15).sched.accum.length
    ∧ (allReference 15).ctl.setup = some setup ∧ (allReference 15).travel.strand = .clear
    ∧ { allReference 15 with travel := insp.travel }.travel.strand = .asserted := by decide +kernel

theorem test_reference_readouts :
    (after (.referenceReadout 0 9 (zeros 256)) (cycle 15)).sched.pointer = 3
    ∧ (after (.referenceReadout 0 9 (zeros 256)) (cycle 15)).corr.dark[512]? = some 6
    ∧ (after (.referenceReadout 0 9 (zeros 256)) (cycle 14)).head.reference
      = some { scope := .segment 2, tag := 9, taken := 15, due := 5020 } := by decide +kernel

theorem test_the_all_segment_reference_ends :
    (after (.referenceReadout 0 9 (zeros 2048)) (allReference 15)).ctl.mode = .waiting := by
  decide +kernel

/-- Seven and eight readouts of a cycle; a reference of all; a millisecond before the due time. -/
theorem test_hyp_ReadoutTimeoutsCutTheCycle :
    (cycle 7).resetting = none ∧ (cycle 7).ctl.setup = some setup
    ∧ (cycle 7).head.reference = some { scope := .segment 2, tag := 9, taken := 7, due := 5020 }
    ∧ (cycle 7).head.timeouts < 15 ∧ ((cycle 7).begin 19).nodeTime < 5020
    ∧ 5020 ≤ ((cycle 7).begin 20).nodeTime ∧ (8 : Nat) ≤ 8 ∧ ¬(8 : Nat) ≤ 7
    ∧ (cycle 8).head.reference = some { scope := .segment 2, tag := 9, taken := 8, due := 5020 }
    ∧ (allReference 3).head.reference
      = some { scope := .all, tag := 9, taken := 3, due := 5020 }
    ∧ PortInv (cycle 7) ∧ PortInv (cycle 8) ∧ PortInv (allReference 3) := by
  unfold PortInv; decide +kernel

theorem test_readout_timeouts :
    (after (.readoutTimeout 20) (cycle 8)).sched.pointer = 3
    ∧ (after (.readoutTimeout 20) (cycle 7)).sched.pointer = 2
    ∧ (after (.readoutTimeout 20) (allReference 3)).head.reference
      = some { scope := .all, tag := 0, taken := 3, due := 5040 } := by decide +kernel

theorem test_hyp_ProbesAreSentAndTimedOut :
    probing.resetting = none ∧ probing.head.probeTimer = some 5020
    ∧ (probing.begin 19).nodeTime < 5020 ∧ 5020 ≤ (probing.begin 20).nodeTime
    ∧ probing.head.probe.isSome = true
    ∧ { probing with head := { probing.head with probe := none } }.head.probe = none
    ∧ probing.head.probe = some { tag := 7, requestedAt := 4980 } := by decide +kernel

theorem test_probes :
    (after (.probeTimerExpiry 20) { probing with head := { probing.head with probe := none } }
      ).head.sent = [.probeRequest 0 0]
    ∧ (after (.probeTimeout 0) probing).head.probe = none := by decide +kernel

theorem test_hyp_AProbeAnswerRecoversTheNode :
    probing.resetting = none ∧ probing.head.line = none ∧ probing.head.reference = none
    ∧ probing.head.probe = some { tag := 7, requestedAt := 4980 } := by decide +kernel

theorem test_probe_arrival :
    (after (.probeArrival 0 7 [] 0) probing).ctl.mode = .referencing
    ∧ (after (.probeArrival 0 7 [] 0) probing).head.sent = [.referenceRequest 0 .all] := by
  decide +kernel

/-- A tick due at 5100, `n` ticks pending, the pointer at segment 1. -/
def ticking (n : Nat) (s : State) : State :=
  { s with sched := { s.sched with tickTimer := some 5100, ticks := n, pointer := 1 } }

theorem test_hyp_TicksMakeSegmentsDue :
    (ticking 8 insp).resetting = none ∧ (ticking 8 insp).ctl.setup = some setup
    ∧ (ticking 8 insp).sched.tickTimer = some 5100
    ∧ ((ticking 8 insp).begin 99).nodeTime < 5100 ∧ 5100 ≤ ((ticking 8 insp).begin 100).nodeTime
    ∧ (ticking 0 insp).sched.ticks = 0 ∧ (allReference 3).sched.allRunning = true
    ∧ (inMode .headFault).ctl.mode = .headFault
    ∧ (ticking 1 insp).sched.allRunning = false ∧ 1 ≤ (ticking 1 insp).sched.ticks
    ∧ (∀ g ∈ (ticking 1 insp).sched.segs, g.state = .current)
    ∧ (ticking 1 (inMode .waiting)).ctl.mode = .waiting := by decide +kernel

/-- The open trace of columns 410 to 413 touches segment 1; with no trace nothing does. -/
theorem test_hyp_a_trace_touches_a_segment :
    (true = true ↔ ∃ t, some t ∈ (ticking 1 (tracing none)).tracer.slots
      ∧ t.spanLo / 256 ≤ (ticking 1 (tracing none)).sched.pointer.val
      ∧ (ticking 1 (tracing none)).sched.pointer.val ≤ t.spanHi / 256)
    ∧ (false = true ↔ ∃ t, some t ∈ (ticking 1 insp).tracer.slots
      ∧ t.spanLo / 256 ≤ (ticking 1 insp).sched.pointer.val
      ∧ (ticking 1 insp).sched.pointer.val ≤ t.spanHi / 256) := by
  refine ⟨⟨fun _ => ⟨aTrace, by decide +kernel⟩, fun _ => rfl⟩, ⟨fun h => (nomatch h), ?_⟩⟩
  rintro ⟨t, h, _⟩
  cases List.eq_of_mem_replicate h

theorem test_ticks :
    (after (.tick 100) (ticking 0 insp)).seg 1 = { state := .blind }
    ∧ (after (.tick 100) (ticking 0 (tracing none))).seg 1 = { state := .due }
    ∧ (after (.tick 100) (ticking 8 (allReference 3))).sched.ticks = 8 := by decide +kernel

/-! ### Tracing -/

def lineOf (position : Int) (runs : List Run) : ProcessedLine :=
  { position := position, runs := runs, blind := 0, stale := 0, crowded := false
    synthetic := false }

def awaiting (line : ProcessedLine) (s : State) : State :=
  { s with tracer := { s.tracer with awaiting := [line] } }

def closed (kind : CloseKind) (s : State) : State :=
  { s with tracer := { s.tracer with lastClose := some { kind := kind, position := 1000 } } }

def run (lo hi peak : Nat) : Run := { lo := lo, hi := hi, peak := peak }

/-- At the close position after either close, one position above it, without runs, on an empty table. -/
theorem test_hyp_ProcessedLinesAgeAndOpenTraces :
    TraceInv (tracing none) ∧ CapacityInv (tracing none)
    ∧ (awaiting (lineOf 1000 []) (tracing none)).resetting = none
    ∧ (awaiting (lineOf 1000 []) (tracing none)).ctl.setup = some setup
    ∧ (awaiting (lineOf 1000 []) (tracing none)).tracer.awaiting = [lineOf 1000 []]
    ∧ (closed .headFault insp).tracer.lastClose = some { kind := .headFault, position := 1000 }
    ∧ (closed .strandEnd insp).tracer.lastClose = some { kind := .strandEnd, position := 1000 }
    ∧ (lineOf 1000 []).position ≤ 1000
    ∧ (∀ c ∈ (closed .headFault insp).tracer.lastClose, c.position < (lineOf 1001 []).position)
    ∧ (∀ c ∈ insp.tracer.lastClose, c.position < (lineOf 1000 []).position)
    ∧ insp.tracer.slots = List.replicate 32 none
    ∧ (List.replicate 16 (run 0 1 50)).length ≤ 32 :=
  ⟨traceInv_of _ setup rfl (by decide +kernel) (by decide +kernel),
    by unfold CapacityInv; decide +kernel, by decide +kernel⟩

/-- A blind mask that holds the whole last span of a trace, and one that does not: idle as it was with
HELD, and one more. -/
theorem test_processed_line_ages :
    (after (.processedLine 0) (awaiting { lineOf 1004 [] with blind := 0x02 }
      (tracing none))).tracer.slots[3]?
      = some (some { aTrace with flags := { held := true } })
    ∧ (after (.processedLine 0) (awaiting { lineOf 1004 [] with blind := 0x01 }
      (tracing none))).tracer.slots[3]? = some (some { aTrace with idle := 1 }) := by
  decide +kernel

/-- A younger trace than `aTrace`, and an older one. -/
def younger : Trace := { aTrace with first := 1000, spanLo := 420, spanHi := 424, peak := 140 }
def elder : Trace := { younger with first := 900 }

/-- The run [412, 421] of the example of section 4.4 meets slots 3 and 9; [405, 408] meets slot 3
alone, at the column tolerance. -/
theorem test_hyp_MatchedRunsExtendAndJoin :
    (tracing (some younger)).resetting = none ∧ (tracing (some younger)).tracer.slots.length = 32
    ∧ (∀ c ∈ (tracing (some younger)).tracer.lastClose, c.position < (1004 : Int))
    ∧ (tracing (some younger)).tracer.slots[3]? = some (some aTrace)
    ∧ (tracing (some younger)).tracer.slots[9]? = some (some younger)
    ∧ (tracing (some elder)).tracer.slots[9]? = some (some elder)
    ∧ aTrace.first ≤ younger.first ∧ ¬aTrace.first ≤ elder.first
    ∧ aTrace.lines + 1 < 4096 ∧ younger.lines + 1 < 4096 := by decide +kernel

theorem test_hyp_which_slots_a_run_matches :
    matchedSlots (tracing (some younger)).tracer.slots 2 (run 412 421 150) = [3, 9]
    ∧ matchedSlots (tracing (some younger)).tracer.slots 2 (run 405 408 60) = [3]
    ∧ matchedSlots (tracing (some younger)).tracer.slots 2 (run 405 407 60) = [] := by
  decide +kernel

/-- The premise on the slots, as the statement puts it, for both runs. -/
theorem test_hyp_the_slots_matched (w : Trace) (k : Nat)
    (h : (tracing (some younger)).tracer.slots[k]? = some (some w)) :
    ((412 ≤ w.spanHi + setup.columnTolerance ∧ w.spanLo ≤ 421 + setup.columnTolerance)
      ↔ k = 3 ∨ k = 9)
    ∧ ((405 ≤ w.spanHi + setup.columnTolerance ∧ w.spanLo ≤ 408 + setup.columnTolerance)
      ↔ k = 3 ∨ k = 3) := by
  have hk : k < 32 := by
    have := (List.getElem?_eq_some_iff.mp h).1
    exact this
  interval_cases k <;> cases h <;> decide +kernel

/-- The join of that example: the elder slot survives with the younger's content. -/
theorem test_processed_line_joins :
    (after (.processedLine 0) (awaiting (lineOf 1004 [run 412 421 150])
      (tracing (some younger)))).tracer.slots[3]?
      = some (some { aTrace with
          last := 1004, spanLo := 412, spanHi := 421, extent := some (405, 421), peak := 150
          lines := 5, flags := { branched := true, unverified := false } })
    ∧ (after (.processedLine 0) (awaiting (lineOf 1004 [run 412 421 150])
      (tracing (some younger)))).tracer.slots[9]? = some none := by decide +kernel

/-- A trace three lines idle closes; its MINOR finding of severity 1 is made and queued. -/
theorem test_processed_line_closes :
    (after (.processedLine 0) (awaiting (lineOf 1004 [])
      { insp with tracer := { insp.tracer with
        slots := some { aTrace with idle := 3 } :: List.replicate 31 none } })).tracer.nextId = 1
    ∧ (after (.processedLine 0) (awaiting (lineOf 1004 [])
      { insp with tracer := { insp.tracer with
        slots := some { aTrace with idle := 3, peak := 49 } :: List.replicate 31 none } })
      ).counter .dismissed = 1 := by decide +kernel

/-- The scores of section 3.4's example. -/
theorem test_scores :
    score .linear 174 = 174 ∧ score .root 174 = 210 ∧ score .log 174 = 237
    ∧ score .step 174 = 182 := by decide +kernel

theorem test_hyp_ScoreFollowsTheLutCurve : (0 : Nat) ≤ 255 ∧ (255 : Nat) ≤ 255 := by decide

/-- Columns about the threshold of 40, one of them blind. -/
def someColumns : Columns := [some 39, some 40, some 255, none, some 255]

theorem test_hyp_RunsAreMaximalStretches :
    1 ≤ setup.runThreshold
    ∧ (∀ c x : Nat, someColumns[c]? = some (some x) → x ≤ 255)
    ∧ lineRuns setup someColumns = [run 1 2 255, run 4 4 255] := by
  refine ⟨by decide, ?_, by decide +kernel⟩
  intro c x h
  have hc : c < 5 := (List.getElem?_eq_some_iff.mp h).1
  interval_cases c <;> simp [someColumns] at h <;> omega

theorem test_hyp_ContrastsAreTakenAgainstTheBackground :
    setup.synthetic = false ∧ (List.replicate 2048 1700).length = 2048
    ∧ (List.replicate 2048 0).length = 2048 ∧ (List.replicate 2048 1024).length = 2048
    ∧ (0 : Nat) < 2048 ∧ (2047 : Nat) < 2048
    ∧ allButFirst.getLsbD (2047 / 256) = true ∧ allButFirst.getLsbD (0 / 256) = false := by
  refine ⟨rfl, ?_, ?_, ?_, by decide +kernel⟩ <;> exact List.length_replicate

/-- The traces of section 4.7's table, with its setup of s1 60, s2 120 and s3 200. -/
def tableSetup : Setup := { setup with s1 := 60, s2 := 120, s3 := 200 }

def tableTrace (first last : Int) (lo hi peak : Nat) : Trace :=
  { aTrace with first := first, last := last, extent := some (lo, hi), peak := peak }

theorem test_hyp_ClosedTracesAreClassified :
    ((600 : Nat) ≤ 900 ∧ (900 : Nat) < 2048)
    ∧ (300 ≤ 900 - 600 + 1 ∧ (10008 - 10000 + 4 : Int) < 1000)
    ∧ ¬(300 ≤ 5 - 0 + 1 ∧ (26996 - 26000 + 4 : Int) < 1000)
    ∧ ((0 < 64) ∧ ¬((2048 - 64 : Int) ≤ 5))
    ∧ (¬(63 + 1 < 64) ∧ (2048 - 64 : Int) ≤ 1984)
    ∧ ((1000 : Int) ≤ 33996 - 30000 + 4) ∧ ((60020 - 60000 + 4 : Int) < 1000) := by
  decide

theorem test_classes :
    (insp.findingOf tableSetup (tableTrace 10000 10008 600 900 130) 600 900).cls = .transverse
    ∧ (insp.findingOf tableSetup (tableTrace 26000 26996 0 5 120) 0 5).flags.cornerLow = true
    ∧ (insp.findingOf tableSetup (tableTrace 50000 51996 10 2040 90) 10 2040).cls = .longitudinal
    ∧ (insp.findingOf tableSetup (tableTrace 80000 80400 1990 2010 40) 1990 2010).flags.cornerHigh
      = true := by decide +kernel

/-- Peaks either side of each threshold; a MINOR trace dismissed, and two that are not. -/
theorem test_hyp_SeverityDecidesDismissal :
    tableSetup.s1 < tableSetup.s2 ∧ tableSetup.s2 < tableSetup.s3
    ∧ 59 < tableSetup.s1 ∧ tableSetup.s1 ≤ 60 ∧ 119 < tableSetup.s2 ∧ tableSetup.s2 ≤ 120
    ∧ 199 < tableSetup.s3 ∧ tableSetup.s3 ≤ 200
    ∧ (tableTrace 60000 60020 700 703 50).extent = some (700, 703)
    ∧ (insp.findingOf tableSetup (tableTrace 60000 60020 700 703 50) 700 703).cls = .minor
    ∧ (insp.findingOf tableSetup (tableTrace 60000 60020 700 703 50) 700 703).severity = 0
    ∧ (insp.findingOf tableSetup (tableTrace 70000 70020 700 703 70) 700 703).severity ≠ 0
    ∧ (insp.findingOf tableSetup (tableTrace 30000 33996 1018 1029 210) 1018 1029).cls ≠ .minor := by
  decide +kernel

/-! ### The strand line -/

/-- A VERDICT of billet 739 with plain numbers, and a frame of it. -/
def aVerdict : Verdict where
  number := 739
  strand := 1
  length := 90000
  longitudinal := 2
  transverse := 0
  corner := 0
  minor := 1
  maxSeverity := 1
  grade := .review
  coverage := 675
  incomplete := true
  truncated := false
  unverified := false
  late := false
  test := false
  total := 3

def verdictTx : TxFrame :=
  { address := .all, target := 0, test := false, body := .verdict aVerdict }

def findingTx : TxFrame :=
  { address := .strandGroup, target := 0, test := false
    body := .finding { aFinding with origin := 1, start := 1000, stop := 1004 } 0 }

/-- A frame in the queue, waiting or being sent, after `collisions` collisions. -/
def sendingFrame (f : TxFrame) (send : SendState) (collisions : Nat) : State :=
  { insp with xcvr := { insp.xcvr with
      queue := [f], send := send, collisions := collisions
      line := if send = .sending then .busy else .idle
      taken := if send = .sending then some (insp.takeCopy f) else none } }

/-- A frame waits while another station's frame is on the line. -/
def midFrame (f : TxFrame) : State :=
  { sendingFrame f .waiting 0 with xcvr := { (sendingFrame f .waiting 0).xcvr with line := .busy } }

theorem test_hyp_TriesTakeTheOldestFrame :
    insp.resetting = none ∧ (sendingFrame verdictTx .waiting 0).xcvr.send = .waiting
    ∧ (sendingFrame verdictTx .waiting 0).xcvr.line = .idle
    ∧ (midFrame verdictTx).xcvr.send = .waiting ∧ (midFrame verdictTx).xcvr.line = .busy
    ∧ (midFrame verdictTx).xcvr.firstGap = false
    ∧ (sendingFrame verdictTx .sending 0).xcvr.send = .sending
    ∧ (sendingFrame verdictTx .sending 0).xcvr.line = .busy
    ∧ (sendingFrame verdictTx .waiting 0).xcvr.queue = [verdictTx]
    ∧ { insp with xcvr := { insp.xcvr with send := .waiting } }.xcvr.queue = []
    ∧ insp.xcvr.send ≠ .waiting ∧ State.reset.xcvr.line = .busy := by decide +kernel

theorem test_transmit_try :
    (after (.transmitTry 0) (withHorizon .waiting insp)).xcvr.send = .sending
    ∧ (after (.transmitTry 0) (withHorizon .waiting insp)).hz.inDelivery
      = some { start := 1000, stop := 1000 }
    ∧ ((after (.transmitTry 0) (withHorizon .waiting insp)).xcvr.taken.map fun c => c.head)
      = some [0x30, 0xA0, 0x15] := by decide +kernel

/-- The ends of a HORIZON's positions, and a full-length STATUS. -/
theorem test_hyp_TakenCopiesSayTheirFrame :
    insp.ownId < 32 ∧ verdictTx.target < 32
    ∧ (insp.bodyBytes verdictTx.body).length < 64
    ∧ (insp.bodyBytes (.status insp.statusBytes)).length < 64
    ∧ ((withHorizon .waiting insp).bodyBytes .horizon).length < 64
    ∧ (-(2 ^ 31) ≤ insp.travel.position ∧ insp.travel.position < 2 ^ 31)
    ∧ (-(2 ^ 31) ≤ insp.hz.ownClearTo ∧ insp.hz.ownClearTo < 2 ^ 31) := by decide +kernel

/-- Fields at the ends of their places. -/
theorem test_hyp_BodiesCarryTheirFields :
    ((2 ^ 32 - 1 : Nat) < 2 ^ 32 ∧ (-(2 ^ 31) : Int) ≤ -(2 ^ 31) ∧ (2 ^ 31 - 1 : Int) < 2 ^ 31)
    ∧ (aFinding.origin < 256 ∧ aFinding.id < 65536 ∧ aFinding.face < 4 ∧ aFinding.severity < 4
      ∧ -(2 ^ 31) ≤ aFinding.start ∧ aFinding.start < 2 ^ 31 ∧ -(2 ^ 31) ≤ aFinding.stop
      ∧ aFinding.stop < 2 ^ 31 ∧ aFinding.colMin < 4096 ∧ aFinding.colMax < 4096
      ∧ aFinding.peak < 256 ∧ aFinding.lines < 65536 ∧ aFinding.secondFace = none
      ∧ aFinding.late = false ∧ aFinding.merged = none)
    ∧ (aVerdict.number < 2 ^ 32 ∧ aVerdict.strand < 256 ∧ 0 ≤ aVerdict.length
      ∧ aVerdict.length < 2 ^ 31 ∧ aVerdict.longitudinal < 256 ∧ aVerdict.transverse < 256
      ∧ aVerdict.corner < 256 ∧ aVerdict.minor < 256 ∧ aVerdict.maxSeverity < 16
      ∧ aVerdict.coverage < 65536 ∧ aVerdict.total < 65536) := by decide +kernel

theorem test_body_bytes :
    cutBytes 501 (-1) = [0, 0, 1, 0xF5, 0xFF, 0xFF, 0xFF, 0xFF, 1]
    ∧ findingBytes aFinding = [3, 0, 7, 0x0D, 0, 0, 3, 0x84, 0, 0, 3, 0xB6, 0, 0xA0, 0x14, 70, 0, 5, 0]
    ∧ verdictBytes aVerdict
      = [0, 0, 2, 0xE3, 1, 0, 1, 0x5F, 0x90, 2, 0, 0, 1, 0x11, 2, 0xA3, 1, 0, 3] := by
  decide +kernel

theorem test_hyp_FailedTriesKeepOrDropTheFrame :
    (sendingFrame verdictTx .sending 1).resetting = none
    ∧ (sendingFrame verdictTx .sending 1).xcvr.send = .sending
    ∧ (sendingFrame verdictTx .sending 1).xcvr.queue = [verdictTx]
    ∧ (sendingFrame verdictTx .sending 1).xcvr.collisions < 2
    ∧ 2 ≤ (sendingFrame findingTx .sending 2).xcvr.collisions
    ∧ (sendingFrame findingTx .sending 2).xcvr.queue = [findingTx] := by decide +kernel

theorem test_arbitration_and_collisions :
    (after (.arbitrationLost 0) (sendingFrame verdictTx .sending 1)).xcvr.send = .waiting
    ∧ (after (.collision 0) (sendingFrame verdictTx .sending 1)).xcvr.collisions = 2
    ∧ (after (.collision 0) (sendingFrame verdictTx .sending 2)).xcvr.queue = []
    ∧ (after (.collision 0) (sendingFrame verdictTx .sending 2)).counter .verdictLost = 1 := by
  decide +kernel

theorem test_hyp_FramesSentWholeAreReported :
    (withHorizon .sending insp).resetting = none
    ∧ (withHorizon .sending insp).xcvr.send = .sending
    ∧ (withHorizon .sending insp).xcvr.taken.isSome = true
    ∧ (withHorizon .sending insp).ctl.setup = some setup
    ∧ (withHorizon .sending insp).hz.inDelivery = some { start := 1000, stop := 1000 }
    ∧ { withHorizon .sending insp with hz := insp.hz }.hz.inDelivery = none
    ∧ verdictTx.body ≠ .horizon
    ∧ (sendingFrame verdictTx .sending 0).xcvr.taken.isSome = true
    ∧ (sendingFrame findingTx .sending 0).xcvr.taken.isSome = true := by decide +kernel

theorem test_hyp_a_verdict_is_no_finding (g : Finding) (n : Nat) :
    verdictTx.body ≠ .finding g n := by intro h; cases h

theorem test_frame_sent_whole :
    (after (.frameSentWhole 2) (withHorizon .sending insp)).hz.notes = []
    ∧ (after (.frameSentWhole 2) (withHorizon .sending insp)).record.pending = [.loss 1 1000 1000]
    ∧ (after (.frameSentWhole 2) (withHorizon .sending insp)).hz.timer = some 5102
    ∧ (after (.frameSentWhole 2) (withHorizon .sending insp)).xcvr.line = .idle := by
  decide +kernel

theorem test_hyp_TheLineTurnsBusyAndIdle :
    insp.resetting = none ∧ insp.xcvr.line = .idle ∧ State.reset.xcvr.line = .busy
    ∧ State.reset.xcvr.firstGap = true ∧ insp.xcvr.firstGap = false := by decide +kernel

theorem test_the_line :
    (after (.newFrameBegins 0) insp).xcvr.line = .busy
    ∧ (after (.idleGapAfterReset 0) State.reset).xcvr.line = .idle := by decide +kernel

/-! ### Frames on the line -/

/-- A frame has passed every check with the head and body that its bytes spell. -/
def passesWith (s : State) (c : FrameClass) (f : RxFrame) (body : List Byte) : Prop :=
  s.resetting = none ∧ s.xcvr.firstGap = false ∧ (s.xcvr.send = .sending → s.xcvr.ending = true)
    ∧ (s.load f).qualify c = .passed (parseHead f.chars) body

theorem passes_of (s : State) (c : FrameClass) (f : RxFrame) (body : List Byte)
    (h : passesWith s c f body) : Passes s c f (parseHead f.chars) body :=
  ⟨⟨h.1, h.2.1, h.2.2.1⟩, h.2.2.2⟩

def buildBody : List Byte := [16]
/-- The fault bit of the taken copy. -/
def takenFault (s : State) : Option Bool := s.xcvr.taken.map fun c => (parseHead c.head).fault

/-- Take and clear at one idle gap, in either order, and the retry after it (R106). -/
theorem test_take_and_clear :
    let s := (midFrame verdictTx).setFlag .check
    let clear := Instr.statusReqFrame 0 (frameOf 9 25 .individual 1 [1])
    takenFault (after (.transmitTry 0) s) = some true
    ∧ takenFault (after clear (after (.transmitTry 0) s)) = some true
    ∧ (after clear (after (.transmitTry 0) s)).flag .check = false
    ∧ (after clear (after (.transmitTry 0) s)).xcvr.line = .busy
    ∧ takenFault (after (.transmitTry 0) (after clear s)) = some false
    ∧ takenFault (after (.transmitTry 0) (after (.arbitrationLost 0)
        (after clear (after (.transmitTry 0) s)))) = some false := by decide +kernel

/-- Take and link failure at one idle gap, in either order (R106); one frame ends at it. -/
theorem test_take_and_link_failure :
    let s := midFrame verdictTx
    let bad := Instr.cutFrame 0 { chars := [0x10], broken := false }
    takenFault (after (.transmitTry 0) (after bad s)) = some true
    ∧ takenFault (after bad (after (.transmitTry 0) s)) = some false
    ∧ (after bad (after (.transmitTry 0) s)).flag .length = true
    ∧ (after bad (after bad (after (.transmitTry 0) s))).counter .length = 1 := by decide +kernel

def buildRx : RxFrame := frameOf 8 25 .individual 1 buildBody

/-- One failure for each check, in order, and a frame that meets none. -/
theorem test_hyp_FramesAreQualifiedInOrder :
    (insp.resetting = none ∧ insp.xcvr.firstGap = false
      ∧ (insp.xcvr.send = .sending → insp.xcvr.ending = true))
    ∧ ¬(5 ≤ (buildRx.chars.take 4).length)
    ∧ buildRx.chars.length = (parseHead buildRx.chars).length + 5
    ∧ buildRx.chars.drop 4 = bytesBE 2 (crc (buildRx.chars.take 3 ++ buildBody)).toNat
    ∧ buildRx.chars.drop 4 ≠ bytesBE 2 (crc (buildRx.chars.take 3 ++ [17])).toNat
    ∧ insp.ctl.nodeId = some (parseHead (frameOf 8 1 .all 0 buildBody).chars).sender
    ∧ insp.ctl.nodeId ≠ some (parseHead buildRx.chars).sender
    ∧ insp.ctl.nodeId ≠ some (parseHead (frameOf 8 25 .individual 2 buildBody).chars).target
    ∧ (parseHead (frameOf 8 25 .strandGroup 1 buildBody).chars).target + 1 ≠ insp.ctl.strand
    ∧ formOk .build (parseHead buildRx.chars) [15] = false
    ∧ formOk .build (parseHead buildRx.chars) buildBody = true
    ∧ (building 0 insp).corr.build = .busy ∧ (inMode .waiting).ctl.mode ≠ .inspecting := by
  decide +kernel

/-- The same by running them: LENGTH, CHECK, ID-CLASH, FORM. -/
theorem test_qualification :
    (after (.buildFrame 0 { buildRx with broken := true }) insp).counter .length = 1
    ∧ (after (.buildFrame 0 { buildRx with chars := buildRx.chars.set 3 17 }) insp).counter .check = 1
    ∧ (after (.buildFrame 0 (frameOf 8 1 .all 0 buildBody)) insp).flag .idClash = true
    ∧ (after (.frameOfUndefinedClass 0 (frameOf 12 25 .all 0 buildBody)) insp).counter .form = 1 := by
  decide +kernel

theorem test_build_frame :
    (after (.buildFrame 0 buildRx) insp).corr.target = some 16
    ∧ (after (.buildFrame 0 buildRx) (building 0 insp)).counter .state = 1 := by decide +kernel

def statusRx : RxFrame := frameOf 6 3 .individual 1 (List.replicate 60 0)

def cutRx : RxFrame := frameOf 1 3 .strandGroup 0 (cutBytes 741 1289950)

def verdictRx (v : Verdict) : RxFrame := frameOf 4 3 .all 0 (verdictBytes v)

def announceBody (strand face : Nat) : List Byte := announceBytes 3 strand face .pin .unconfigured
def announceRx (strand face : Nat) : RxFrame := frameOf 5 3 .all 0 (announceBody strand face)

/-- A HORIZON body with its stamp, clear-to, covering bit and last finding id. -/
def horizonBody (stamp clearTo : Int) (covering : Bool) (last : Option Nat) : List Byte :=
  positionBytes stamp ++ positionBytes clearTo
    ++ [byteOf (4 * 32 + bitValue covering 4 + bitValue last.isSome 1), 0] ++ bytesBE 2 (last.getD 0)

def horizonRx (body : List Byte) : RxFrame := frameOf 3 3 .strandGroup 0 body

/-- An UNSTRAPPED node. -/
def unstrapped : State :=
  { fresh with ctl := { fresh.ctl with mode := .unstrapped, nodeId := none, announceTimer := none } }

theorem test_hyp_ModesDiscardFrames :
    passesWith insp .status statusRx (List.replicate 60 0)
    ∧ passesWith fresh .cut cutRx (cutBytes 741 1289950)
    ∧ passesWith fresh .verdict (verdictRx aVerdict) (verdictBytes aVerdict)
    ∧ passesWith unstrapped .announce (announceRx 1 1) (announceBody 1 1)
    ∧ passesWith unstrapped .horizon (horizonRx (horizonBody 5 0 true none))
      (horizonBody 5 0 true none)
    ∧ passesWith fresh .finding (frameOf 2 3 .strandGroup 0 (findingBytes aFinding))
      (findingBytes aFinding)
    ∧ fresh.ctl.mode = .unconfigured ∧ unstrapped.ctl.mode = .unstrapped := by
  unfold passesWith; decide +kernel

theorem test_status_frame : (after (.statusFrame 0 statusRx) insp).diag = insp.diag := by
  decide +kernel

/-! ### Frames from peers -/

/-- Node 3 LIVE with offset 100 and clear-to 1000. -/
def peered : State := withPeer aPeer billets

theorem test_hyp_CutFramesArePlaced :
    passesWith peered .cut cutRx (cutBytes 741 1289950) ∧ peered.ctl.setup = some setup
    ∧ peered.ctl.mode.configured = true ∧ (peered.peer 3).bind Peer.offset = some 100
    ∧ (parseHead cutRx.chars).sender = 3 ∧ (billets.peer 3).bind Peer.offset = none
    ∧ passesWith billets .cut cutRx (cutBytes 741 1289950) := by
  unfold passesWith; decide +kernel

theorem test_cut_frame :
    (after (.cutFrame 0 cutRx) peered).billet.billets.map Billet.number = [739, 740, 741]
    ∧ (after (.cutFrame 0 cutRx) peered).travel.cutCounter = some 741
    ∧ (after (.cutFrame 0 cutRx) billets).counter .unplaced = 1 := by decide +kernel

def findingRx (id : Nat) : RxFrame :=
  frameOf 2 3 .strandGroup 0 (findingBytes { aFinding with id := id })

/-- The distances at which the clauses meet: 0, 1, 32767, 32768, 65535 ahead of 120. -/
theorem test_hyp_FindingFramesArePlacedAndCounted :
    passesWith peered .finding (findingRx 120) (findingBytes { aFinding with id := 120 })
    ∧ peered.ctl.mode.configured = true
    ∧ (((peered.frameOver 0).hear 3).peer 3).bind Peer.offset = some 100
    ∧ (((peered.frameOver 0).hear 3).peer 3).bind Peer.nextId = some 120
    ∧ (((peered.frameOver 0).hear 3).peer 3).bind Peer.clearTo = some 1000
    ∧ ((120 : Int) - 120) % 65536 = 0 ∧ ((121 : Int) - 120) % 65536 = 1
    ∧ ((32887 : Int) - 120) % 65536 = 32767 ∧ ((32888 : Int) - 120) % 65536 = 32768
    ∧ ((119 : Int) - 120) % 65536 = 65535
    ∧ (billets.peer 3).bind Peer.offset = none
    ∧ passesWith billets .finding (findingRx 120) (findingBytes { aFinding with id := 120 }) := by
  unfold passesWith; decide +kernel

/-- The example of section 6.3: an id two ahead is counted twice and leaves a LOSS. -/
theorem test_finding_frame :
    (after (.findingFrame 0 (findingRx 122)) peered).counter .missed = 2
    ∧ (after (.findingFrame 0 (findingRx 122)) peered).record.pending
      = [.finding { aFinding with id := 122, start := 1000, stop := 1050 }, .loss 3 1000 1000]
    ∧ (after (.findingFrame 0 (findingRx 119)) peered).counter .missed = 0
    ∧ ((after (.findingFrame 0 (findingRx 119)) peered).peer 3).bind Peer.nextId = some 120 := by
  decide +kernel

/-- Eight records, none of node 3. -/
def crowdedTable : State :=
  { insp with hz := { insp.hz with
      peers := [5, 6, 7, 8, 9, 10, 11, 12].map fun i => { aPeer with id := i, face := none } } }

/-- An unknown sender with room and without, a known one, a node before SETUP; an offset at the slip
tolerance and one beyond. -/
theorem test_hyp_HorizonFramesRenewTheRecord :
    passesWith peered .horizon (horizonRx (horizonBody 903 1000 true (some 121)))
      (horizonBody 903 1000 true (some 121))
    ∧ passesWith fresh .horizon (horizonRx (horizonBody 903 1000 true none))
      (horizonBody 903 1000 true none)
    ∧ passesWith crowdedTable .horizon (horizonRx (horizonBody 903 1000 true none))
      (horizonBody 903 1000 true none)
    ∧ peered.ctl.mode ≠ .unstrapped ∧ peered.ctl.setup = some setup
    ∧ crowdedTable.peer 3 = none ∧ 8 ≤ crowdedTable.hz.peers.length
    ∧ insp.peer 3 = none ∧ insp.hz.peers.length < 8
    ∧ peered.peer 3 = some aPeer ∧ fresh.ctl.mode = .unconfigured
    ∧ ((peered.frameOver 0).ensurePeer 3).peer 3
      = some { aPeer with lastHeard := 5000, silenceDue := some 5400 }
    ∧ ¬((setup.slipTolerance : Int) < |(1003 - 883) - 100|)
    ∧ (setup.slipTolerance : Int) < |(1003 - 882) - 100| := by
  unfold passesWith; decide +kernel

/-- A HORIZON body with a note, of a sender that covers again, and the record of a peer with an open
gap. -/
def noteBody : List Byte :=
  positionBytes 903 ++ positionBytes 1000 ++ [byteOf (4 * 32 + 16 + 2 + 1), 0] ++ bytesBE 2 121
    ++ positionBytes 980 ++ positionBytes 984 ++ [0]

def gapped : State :=
  let s := withPeer { aPeer with openGap := some (1, 1000), covering := false } billets
  { s with record := { s.record with pending := [.gap 1 3 1000 none] } }

/-- Findings missed by none, by one, by 32767, and an id behind; a note; an open gap. -/
theorem test_hyp_the_steps_of_a_horizon :
    passesWith gapped .horizon (horizonRx noteBody) noteBody
    ∧ (parseHorizon noteBody).note = some (980, 984)
    ∧ (parseHorizon noteBody).covering = true ∧ (parseHorizon noteBody).lastValid = true
    ∧ ((gapped.frameOver 0).ensurePeer 3).peer 3 = some { aPeer with
        openGap := some (1, 1000), covering := false, lastHeard := 5000, silenceDue := some 5400 }
    ∧ ((119 : Int) + 1 - 120) % 65536 = 0 ∧ ((120 : Int) + 1 - 120) % 65536 = 1
    ∧ ((32886 : Int) + 1 - 120) % 65536 = 32767 ∧ ((32887 : Int) + 1 - 120) % 65536 = 32768 := by
  unfold passesWith; decide +kernel

theorem test_horizon_note_and_gap :
    (after (.horizonFrame 0 (horizonRx noteBody)) gapped).record.pending
      = [.loss 3 1000 1100, .gap 1 3 1000 (some 1100), .loss 3 1080 1084]
    ∧ (after (.horizonFrame 0 (horizonRx noteBody)) gapped).counter .missed = 2 := by
  decide +kernel

theorem test_horizon_frame :
    ((after (.horizonFrame 0 (horizonRx (horizonBody 882 1000 false (some 121)))) peered).peer 3)
      = some { aPeer with
          lastHeard := 5000, silenceDue := some 5400, offset := some 121, clearTo := some 1121
          covering := false, nextId := some 122, openGap := some (1, 1000) }
    ∧ (after (.horizonFrame 0 (horizonRx (horizonBody 882 1000 false (some 121)))) peered).counter
      .slip = 1
    ∧ (after (.horizonFrame 0 (horizonRx (horizonBody 882 1000 false (some 121)))) peered).counter
      .missed = 2
    ∧ (after (.horizonFrame 0 (horizonRx (horizonBody 5 0 true none))) crowdedTable).flag
      .peerOverflow = true := by decide +kernel

/-- The peered node with billet 739 REPORTED, its verdict sent or only heard. -/
def reported (sent : Option Verdict) : State :=
  { peered with billet := { peered.billet with
      billets := peered.billet.billets.map fun b =>
        if b.number = 739 then { b with state := .reported, verdictSent := sent.isSome, sent := sent }
        else b } }

theorem test_hyp_VerdictFramesReportBillets :
    passesWith peered .verdict (verdictRx aVerdict) (verdictBytes aVerdict)
    ∧ peered.ctl.mode.configured = true ∧ BilletInv peered ∧ BilletInv (reported (some aVerdict))
    ∧ parseVerdict (verdictBytes aVerdict) = aVerdict ∧ aVerdict.strand = peered.ctl.strand
    ∧ (∃ b ∈ peered.billet.billets, b.number = aVerdict.number ∧ b.state ≠ .reported)
    ∧ (∃ b ∈ (reported none).billet.billets,
        b.number = aVerdict.number ∧ b.state = .reported ∧ b.verdictSent = false)
    ∧ (∃ b ∈ (reported (some aVerdict)).billet.billets,
        b.number = aVerdict.number ∧ b.state = .reported ∧ b.sent = some aVerdict)
    ∧ (∀ b ∈ insp.billet.billets, b.number ≠ aVerdict.number)
    ∧ passesWith (reported (some aVerdict)) .verdict (verdictRx aVerdict) (verdictBytes aVerdict) := by
  unfold passesWith BilletInv; decide +kernel

theorem test_verdict_frame :
    (after (.verdictFrame 0 (verdictRx aVerdict)) peered).billet.billets.map Billet.state
      = [.reported, .opened]
    ∧ (after (.verdictFrame 0 (verdictRx aVerdict)) (reported (some aVerdict))).flag
      .verdictMismatch = false
    ∧ (after (.verdictFrame 0 (verdictRx { aVerdict with grade := .accept }))
      (reported (some aVerdict))).flag .verdictMismatch = true := by decide +kernel

theorem test_hyp_AnnounceFramesRestartTheRecord :
    passesWith peered .announce (announceRx 1 1) (announceBody 1 1)
    ∧ passesWith peered .announce (announceRx 2 1) (announceBody 2 1)
    ∧ passesWith insp .announce (announceRx 1 1) (announceBody 1 1)
    ∧ peered.ctl.mode ≠ .unstrapped ∧ fieldAt (announceBody 2 1) 2 1 ≠ peered.ctl.strand
    ∧ fieldAt (announceBody 1 1) 2 1 = peered.ctl.strand ∧ insp.peer 3 = none
    ∧ (((peered.frameOver 0).hear 3).peer 3).map Peer.state = some .live
    ∧ ((((withPeer { aPeer with state := .silent } insp).frameOver 0).hear 3).peer 3).map Peer.state
      = some .silent
    ∧ passesWith (withPeer { aPeer with state := .silent } insp) .announce (announceRx 1 1)
      (announceBody 1 1) := by
  unfold passesWith; decide +kernel

theorem test_announce_frame :
    (after (.announceFrame 0 (announceRx 1 0)) peered).record.pending = [.gap 1 3 1000 none]
    ∧ (after (.announceFrame 0 (announceRx 1 0)) peered).flag .faceConflict = true
    ∧ ((after (.announceFrame 0 (announceRx 1 1)) insp).peer 3).bind Peer.face = some 1 := by
  decide +kernel

theorem test_hyp_SilenceEndsTheRecord :
    peered.resetting = none ∧ peered.peer 3 = some aPeer ∧ aPeer.silenceDue = some 5300
    ∧ (peered.begin 299).nodeTime < 5300 ∧ 5300 ≤ (peered.begin 300).nodeTime
    ∧ aPeer.state = .live ∧ { aPeer with state := .joining }.state ≠ PeerState.live
    ∧ (withPeer { aPeer with state := .joining } insp).peer 3
      = some { aPeer with state := .joining } ∧ (4 : Nat) ≠ 3 := by decide +kernel

theorem test_silence :
    (after (.silenceTimerExpiry 300 3) peered).record.pending = [.gap 1 3 1000 none]
    ∧ ((after (.silenceTimerExpiry 300 3) peered).peer 3).map Peer.state = some .silent := by
  decide +kernel

/-! ### Plant stations and the node's own timers -/

/-- A SETUP body with the values of `setup`, its silence timeout at four horizon periods. -/
def setupBody : List Byte :=
  bytesBE 3 10000 ++ [4, 0x18, 40, 50, 100, 180, 2, 3] ++ bytesBE 2 64 ++ bytesBE 2 300
    ++ bytesBE 2 1000 ++ bytesBE 2 50 ++ bytesBE 2 20 ++ bytesBE 2 200 ++ bytesBE 3 40000
    ++ bytesBE 4 501 ++ bytesBE 3 250000 ++ bytesBE 3 20000 ++ [0xBF] ++ bytesBE 2 150
    ++ bytesBE 2 50 ++ bytesBE 2 2000 ++ bytesBE 2 60 ++ bytesBE 2 16 ++ bytesBE 2 400
    ++ bytesBE 2 1000 ++ bytesBE 2 100 ++ bytesBE 2 50 ++ bytesBE 2 900

def setupRx : RxFrame := frameOf 7 25 .individual 1 setupBody

/-- The body is laid out as R207 says. -/
theorem test_setup_body : setupBody.length = 57 ∧ parseSetup setupBody = setup := by decide +kernel

theorem test_hyp_SetupIsTakenUp :
    passesWith fresh .setup setupRx setupBody ∧ fresh.head.reference = none
    ∧ (∀ p ∈ fresh.hz.peers, p.state ≠ .live) ∧ fresh.tracer.awaiting = []
    ∧ fresh.traceFirsts = [] ∧ fresh.hz.notes = []
    ∧ fresh.xcvr.queue.filterMap TxFrame.findingStart = [] ∧ fresh.billet.billets = []
    ∧ fresh.record.pending = [] ∧ fresh.record.overflow = none ∧ fresh.record.entries = []
    ∧ fresh.xcvr.queue.length < 16 := by
  unfold passesWith; decide +kernel

/-- The SETUP of section 10.7's example, at count 15002: everything stands at 15000. -/
theorem test_setup_frame :
    (after (.setupFrame 2450 setupRx) (placed 15002 0 0 fresh)).ctl.mode = .referencing
    ∧ (after (.setupFrame 2450 setupRx) (placed 15002 0 0 fresh)).hz.horizon = 15000
    ∧ (after (.setupFrame 2450 setupRx) (placed 15002 0 0 fresh)).billet.floor = some 15000
    ∧ (after (.setupFrame 2450 setupRx) (placed 15002 0 0 fresh)).record.pending
      = [.gap 0 1 15000 none] := by decide +kernel

/-- A setup with one field out of its range fails FORM. -/
theorem test_a_setup_out_of_range :
    (after (.setupFrame 0 (frameOf 7 25 .individual 1 (setupBody.set 3 0))) fresh).counter .form
      = 1 := by decide +kernel

def statusReqRx (clear : Byte) : RxFrame := frameOf 9 25 .individual 1 [clear]

/-- A full queue. -/
def fullQueue : State :=
  { insp with xcvr := { insp.xcvr with queue := List.replicate 16 verdictTx, send := .waiting } }

theorem test_hyp_StationFramesAreAnswered :
    passesWith insp .build buildRx buildBody
    ∧ passesWith insp .statusReq (statusReqRx 1) [1] ∧ passesWith insp .statusReq (statusReqRx 0) [0]
    ∧ passesWith fullQueue .statusReq (statusReqRx 1) [1] ∧ insp.ctl.mode ≠ .unstrapped
    ∧ fieldAt [1] 0 1 = 1 ∧ insp.xcvr.queue.length < 16 ∧ ¬fullQueue.xcvr.queue.length < 16 := by
  unfold passesWith; decide +kernel

theorem test_status_req_frame :
    (after (.statusReqFrame 0 (statusReqRx 1)) (insp.setFlag .check)).flag .check = false
    ∧ (after (.statusReqFrame 0 (statusReqRx 0)) (insp.setFlag .check)).flag .check = true
    ∧ ((insp.setFlag .check).statusBytes.take 12)
      = [4, 0, 2, 0, 0, 0xFF, 0, 0, 0, 0, 0, 0] := by decide +kernel

/-- The horizon timer due at 5100, the announce timer at 1000. -/
def timed : State := { insp with hz := { insp.hz with timer := some 5100 } }

theorem test_hyp_PeriodicFramesAreHanded :
    timed.resetting = none ∧ timed.hz.timer = some 5100 ∧ timed.ctl.setup = some setup
    ∧ (timed.begin 99).nodeTime < 5100 ∧ 5100 ≤ (timed.begin 100).nodeTime
    ∧ fresh.ctl.announceTimer = some 1000 ∧ (fresh.begin 999).nodeTime < 1000
    ∧ 1000 ≤ (fresh.begin 1000).nodeTime
    ∧ (∃ f ∈ State.reset.xcvr.queue, f.isAnnounce = true)
    ∧ (∀ f ∈ fresh.xcvr.queue, f.isAnnounce = false)
    ∧ (∃ g ∈ (withHorizon .waiting insp).xcvr.queue, g.body = .horizon)
    ∧ (∀ g ∈ fullQueue.xcvr.queue, g.body ≠ .horizon)
    ∧ fullQueue.xcvr.queue.length = 16 ∧ (fullQueue.xcvr.queue.take 15).length < 16 := by
  decide +kernel

theorem test_timers :
    (after (.horizonTimerExpiry 100) timed).xcvr.queue.map TxFrame.body = [.horizon]
    ∧ (after (.horizonTimerExpiry 100) timed).hz.timer = some 5200
    ∧ (after (.announceTimerExpiry 1000) fresh).xcvr.queue.length = 1
    ∧ (after (.announceTimerExpiry 1000) State.reset).xcvr.queue.length = 1 := by decide +kernel

/-! ### Resets -/

/-- The straps of section 10.7's example: ID 11, strand 4, face 2. -/
def straps : Straps := ⟨.floating, .low, .high, false, true, true, true, false⟩
def noStraps : Straps := ⟨.low, .low, .low, false, false, false, false, false⟩

theorem test_hyp_ResetsBeginAndEnd :
    insp.resetting = none ∧ underReset.resetting = some .pin
    ∧ 9 * StrapLevel.digit straps.id2 + 3 * StrapLevel.digit straps.id1
      + StrapLevel.digit straps.id0 = 11
    ∧ 9 * StrapLevel.digit noStraps.id2 + 3 * StrapLevel.digit noStraps.id1
      + StrapLevel.digit noStraps.id0 = 0
    ∧ { underReset with resetting := some .power }.resetting = some ResetCause.power := by
  decide +kernel

theorem test_reset_begins :
    (after (.pinReset 0) busy).marker.output = .off
    ∧ (after (.pinReset 0) { underReset with resetting := some .power }).resetting = some .power
    ∧ (after (.powerOnReset 0) busy).resetting = some .power := by decide +kernel

theorem test_reset_ends :
    (after (.resetEnd 0 straps) (underReset.setFlag .encoder)).ctl
      = { mode := .unconfigured, nodeId := some 11, strand := 4, face := 2, cause := .pin
          setup := none, announceTimer := some 1000, covering := false }
    ∧ (after (.resetEnd 0 straps) (underReset.setFlag .encoder)).flag .encoder = true
    ∧ (after (.resetEnd 0 noStraps) underReset).ctl.mode = .unstrapped
    ∧ (after (.resetEnd 0 noStraps) underReset).xcvr.queue = [] := by decide +kernel

/-! ### Record, billets, marks -/

theorem test_hyp_EntriesLieWithinABillet :
    (1110000 : Int) < 1200000 ∧ (1110000 : Int) ≤ 1110000
    ∧ (Entry.gap 0 3 1110000 (some 1110000)).liesWithin 1110000 1200000 = false
    ∧ (Entry.gap 0 3 1109999 (some 1110001)).liesWithin 1110000 1200000 = true
    ∧ (Entry.loss 3 1109000 1110000).liesWithin 1110000 1200000 = true
    ∧ (Entry.loss 3 1200000 1200000).liesWithin 1110000 1200000 = false := by decide +kernel

/-- A billet of the record of section 8.6's kind: a finding, a LOSS and gaps of two faces within it; and
nodes with and without the verdict role, with one billet DUE and room, and without room. -/
def judging (id : Nat) (state : BilletState) (queued : Nat) : State :=
  let s := withPeer aPeer insp
  { s with
    ctl := { s.ctl with nodeId := some id }
    record := { s.record with entries := [.gap 0 1 880 none, .finding aFinding,
      .gap 1 3 910 (some 930), .loss 3 940 944] }
    billet := { s.billet with billets := [
      { number := 7, head := 890, tail := some 990, state := state, truncated := false
        verdictSent := false, sent := none },
      { number := 8, head := 990, tail := none, state := .opened, truncated := false
        verdictSent := false, sent := none }] }
    xcvr := { s.xcvr with
      queue := List.replicate queued (s.toStrand false (.cut 5 5)), send := .waiting } }

theorem test_hyp_verdicts_are_computed_and_decided :
    RecordInv (judging 1 .due 0) ∧ (890 : Int) < 990
    ∧ (List.range 4).filter setup.faceMask.getLsbD = [0, 1, 2, 3]
    ∧ (judging 1 .due 0).hz.peers.all (fun p => decide (1 ≤ p.id)) = true
    ∧ (∃ p ∈ (judging 5 .due 0).hz.peers, p.state = .live ∧ p.id < (judging 5 .due 0).ownId)
    ∧ (judging 1 .due 0).xcvr.queue.length < 16 ∧ 16 ≤ (judging 1 .due 16).xcvr.queue.length
    ∧ (∀ b ∈ (judging 1 .cut 0).billet.billets, b.state ≠ .due)
    ∧ (judging 1 .due 0).billet.billets.map Billet.state = [.due, .opened] := by
  unfold RecordInv InOrder; decide +kernel

/-- Faces 0 and 1 are held, with a gap over all and over a fifth; 2 and 3 are nobody's. -/
theorem test_a_verdict :
    ((judging 1 .due 0).verdictOf setup
      { number := 7, head := 890, tail := some 990, state := .due, truncated := false
        verdictSent := false, sent := none } 990).coverage = 200
    ∧ (((judging 1 .due 0).verdictDecision setup).billet.billets.map Billet.state
      = [.reported, .opened]) := by decide +kernel

/-- Pending lists of 63 and of 64 entries, and a record with a finding in it. -/
def pendingOf (n : Nat) : State :=
  { insp with record := { insp.record with
      pending := List.replicate n (.loss 3 1000 1004), entries := [.finding aFinding] } }

/-- A second copy below the horizon; the horizon itself, with room and without; one below it. -/
theorem test_hyp_EntriesAreHandedToTheirPlace :
    RecordInv (pendingOf 63) ∧ RecordInv (pendingOf 64)
    ∧ (pendingOf 63).isSecondCopy (.finding aFinding) = true
    ∧ (pendingOf 63).isSecondCopy (.loss 3 1000 1000) = false
    ∧ (pendingOf 63).hz.horizon ≤ (Entry.loss 3 1000 1000).start
    ∧ (pendingOf 63).record.pending.length < 64 ∧ 64 ≤ (pendingOf 64).record.pending.length
    ∧ (Entry.loss 3 999 1000).start < (pendingOf 63).hz.horizon
    ∧ (pendingOf 63).record.entries.length < 256 ∧ (pendingOf 63).billet.billets = [] := by
  unfold RecordInv InOrder; decide +kernel

/-- A record of 256 entries under billets, one without any; late findings for the marker and not; an open
GAP pending, committed, and held nowhere. -/
def fullRecord : State :=
  { billets with record := { billets.record with entries := List.replicate 256 (.loss 3 990 994) } }

theorem test_hyp_late_entries_and_closes :
    RecordInv fullRecord ∧ ¬fullRecord.record.entries.length < 256
    ∧ RecordInv (pendingOf 0)
    ∧ (pendingOf 0).isSecondCopy (.finding { aFinding with id := 8 }) = false
    ∧ aFinding.start < (pendingOf 0).hz.horizon ∧ aFinding.severity < setup.markSeverity
    ∧ aFinding.face = insp.ctl.face ∧ (pendingOf 0).ctl.setup = some setup
    ∧ gapped.record.pending = [] ++ Entry.gap 1 3 1000 none :: []
    ∧ Entry.gap 0 1 880 none ∉ (judging 1 .due 0).record.pending
    ∧ Entry.gap 0 1 880 none ∈ (judging 1 .due 0).record.entries
    ∧ Entry.gap 0 1 881 none ∉ (judging 1 .due 0).record.entries := by
  unfold RecordInv InOrder; decide +kernel

theorem test_entries_arrive :
    ((pendingOf 64).handEntry (.loss 3 1010 1020)).record.overflow = some (1010, 1020)
    ∧ ((pendingOf 63).handEntry (.loss 3 999 1000)).counter .late = 1
    ∧ ((pendingOf 63).handEntry (.finding aFinding)).counter .late = 1
    ∧ ((pendingOf 63).handEntry (.gap 0 1 1000 none)).record.pending.length = 64 := by
  decide +kernel

/-- The rise of the example of section 7.3 in small: what starts below 1002 is committed. -/
def rising : State :=
  { insp with record := { insp.record with
      pending := [.loss 3 1000 1004, .gap 1 3 1001 none, .loss 3 1002 1003]
      overflow := none } }

theorem test_hyp_RisesCommitInOrder :
    RecordInv rising ∧ rising.hz.horizon ≤ 1002 ∧ rising.billet.billets = []
    ∧ rising.record.overflow = none
    ∧ rising.record.entries.length + rising.record.pending.length ≤ 256 := by
  unfold RecordInv InOrder; decide +kernel

theorem test_hyp_no_finding_is_pending (f : Finding) :
    ∀ e ∈ rising.record.pending, e ≠ .finding f := by
  intro e h hf
  subst hf
  simp [rising] at h

theorem test_a_rise_commits :
    (rising.commitBelow setup 1002).record.entries = [.loss 3 1000 1004, .gap 1 3 1001 none]
    ∧ (rising.commitBelow setup 1002).record.pending = [.loss 3 1002 1003] := by decide +kernel

/-- The corner merge of section 7.7's example. -/
theorem test_corner_merge :
    (mergeFirst
      { aFinding with id := 130, face := 0, cls := .corner, severity := 3, start := 70420
                      stop := 70950, peak := 201, flags := { cornerHigh := true } } 50
      [.finding { aFinding with origin := 6, id := 88, face := 1, cls := .corner, severity := 2
                                start := 70400, stop := 70900, peak := 150
                                flags := { cornerLow := true } }]).map
        (fun r => (r.2.start, r.2.stop)) = some (70400, 70950) := by decide +kernel

/-- The coverage of a billet with one face of four never held and a gap on another. -/
theorem test_coverage :
    { withPeer { aPeer with face := some 1 } insp with
        record := { insp.record with entries := [.gap 1 3 100 (some 200), .gap 1 3 150 (some 300)] }
      }.coverage setup 0 1000 = 450 := by decide +kernel

/-- A mark at [300000, 300150], the position at `p`, `history` starts. -/
def marking (p : Int) (dir : Direction) (history : List Nat) : State :=
  let s := placed p p p insp
  { s with
    nodeTime := 51600
    marker := { s.marker with
      queue := [{ start := 300000, stop := 300150 }], direction := dir, history := history } }

/-- One position short of the start, the start, the end; reverse travel; four starts with the oldest
just within the window and just out of it. -/
theorem test_hyp_MarksStartAndFollowThePosition :
    (marking 299999 .forward []).ctl.setup = some setup
    ∧ (marking 299999 .forward []).marker.active = none
    ∧ (marking 299999 .forward []).travel.position < 300000
    ∧ (marking 300150 .forward []).travel.position ≤ 300150
    ∧ (300000 : Int) ≤ (marking 300000 .forward []).travel.position
    ∧ (marking 300000 .reverse []).marker.direction = .reverse
    ∧ (marking 300000 .forward [1, 2, 3]).marker.history.length < 4
    ∧ (∃ x ∈ (marking 300000 .forward [49600, 50400, 50800, 51200]).marker.history.head?,
        51600 ≤ x + setup.markWindow)
    ∧ (∃ x ∈ (marking 300000 .forward [49599, 50400, 50800, 51200]).marker.history.head?,
        x + setup.markWindow < 51600)
    ∧ busy.marker.active = some { start := 990, stop := 1100 }
    ∧ (300150 : Int) < (marking 300151 .forward []).travel.position
    ∧ 4 ≤ (marking 300000 .forward [49600, 50400, 50800, 51200]).marker.history.length := by
  decide +kernel

/-- On time from one position short of the start, partial from the start itself. -/
theorem test_marks_start_on_time :
    ((marking 300000 .forward []).startTest (some 299999)).counter .markPartial = 0
    ∧ ((marking 300001 .forward []).startTest (some 300000)).counter .markPartial = 1 := by
  decide +kernel

theorem test_marks :
    ((marking 300000 .forward [49600, 50400, 50800, 51200]).startTest none).counter .markSkipped = 1
    ∧ ((marking 300000 .forward [49599, 50400, 50800, 51200]).startTest none).marker.output = .on
    ∧ ((marking 300151 .forward []).startTest none).counter .markLate = 1
    ∧ (busy.marker.follow .reverse 1003).output = .off := by decide +kernel

end Sys2Proof.Tests
end

section
/-! SUPPORT. What a report to the record unit, the billet unit or the transmit queue leaves alone: the
direction of travel, the transceiver but for its queue and send state, and every counter that no such
report counts. -/

namespace Sys2Proof.Machine

/-- The counters that handing on a frame, an entry, a mark or a closed trace may count. -/
def reportCounters : List Counter :=
  [.txOverrun, .late, .pendingOverflow, .recordEvict, .dismissed, .verdictLost, .markSkipped, .markLate,
   .markPartial]

/-- `t` is `s` after reports alone. -/
structure Reports (s t : State) : Prop where
  direction : t.marker.direction = s.marker.direction
  xcvr : ∃ q n, t.xcvr = { s.xcvr with queue := q, send := n }
  counter : ∀ c, c ∉ reportCounters → t.counter c = s.counter c

theorem Reports.silent {s t : State} (hm : t.marker.direction = s.marker.direction)
    (hx : t.xcvr = s.xcvr) (hd : t.diag = s.diag) : Reports s t :=
  ⟨hm, ⟨_, _, hx⟩, fun c _ => by unfold State.counter; rw [hd]⟩

theorem Reports.refl (s : State) : Reports s s := .silent rfl rfl rfl

theorem Reports.after {s t u : State} (h : Reports t u) (k : Reports s t) : Reports s u := by
  obtain ⟨q, n, hx⟩ := h.xcvr
  obtain ⟨q', n', kx⟩ := k.xcvr
  exact ⟨h.direction.trans k.direction, ⟨q, n, by rw [hx, kx]⟩,
    fun c hc => (h.counter c hc).trans (k.counter c hc)⟩

/-- An update of other blocks after reports. -/
theorem Reports.then_silent {s t u : State} (k : Reports s t)
    (hm : u.marker.direction = t.marker.direction) (hx : u.xcvr = t.xcvr) (hd : u.diag = t.diag) :
    Reports s u := (Reports.silent hm hx hd).after k

theorem Reports.count (s : State) {c : Counter} (hc : c ∈ reportCounters) : Reports s (s.count c) :=
  ⟨rfl, ⟨_, _, rfl⟩, fun _ hd => s.count_counter_other fun e => hd (e ▸ hc)⟩

/-! ### Transmit queue and marker unit -/

theorem State.handFrame_reports (s : State) (f : TxFrame) : Reports s (s.handFrame f) := by
  unfold State.handFrame
  split
  · exact .refl s
  · split
    · exact .count s (by decide)
    · exact ⟨rfl, ⟨_, _, rfl⟩, fun _ _ => rfl⟩

theorem startFrom_reports (v : Setup) (before : Option Int) (q : List Mark) (s : State) :
    Reports s (startFrom v before q s) := by
  induction q generalizing s with
  | nil => exact .silent rfl rfl rfl
  | cons m rest ih =>
    unfold startFrom
    split
    · exact (ih _).after (.count s (by decide))
    · split
      · split
        · exact (ih _).after (.count s (by decide))
        · dsimp only
          split
          · exact .silent rfl rfl rfl
          · exact (Reports.count _ (by decide)).after (.silent rfl rfl rfl)
      · exact .silent rfl rfl rfl

theorem State.startTest_reports (s : State) (before : Option Int) :
    Reports s (s.startTest before) := by
  unfold State.startTest
  split
  · exact .refl s
  · split
    · exact .refl s
    · exact startFrom_reports _ _ _ s

theorem MarkerUnit.extendNewest_direction (m : MarkerUnit) (stop : Int) :
    (m.extendNewest stop).direction = m.direction := by
  unfold MarkerUnit.extendNewest
  split <;> rfl

theorem State.offerMark_reports (s : State) (v : Setup) (new : Mark) :
    Reports s (s.offerMark v new) := by
  unfold State.offerMark
  split
  · exact .silent (s.marker.extendNewest_direction _) rfl rfl
  · split
    · exact .count s (by decide)
    · split
      · exact .count s (by decide)
      · exact (State.startTest_reports _ _).after (.silent rfl rfl rfl)

theorem State.markFinding_reports (s : State) (v : Setup) (f : Finding) :
    Reports s (s.markFinding v f) := by
  unfold State.markFinding
  split
  · exact .refl s
  · exact s.offerMark_reports v _

theorem MarkerUnit.follow_direction (m : MarkerUnit) (dir : Direction) (p : Int) :
    (m.follow dir p).direction = dir := by
  unfold MarkerUnit.follow
  split
  · rfl
  · cases dir with
    | reverse => rfl
    | forward =>
      dsimp only
      split
      · rfl
      · split <;> rfl

/-- A transition leaves its direction with the marker unit, and is a report in all else. -/
theorem State.markMove_reports (s : State) (dir : Direction) (before : Int) :
    (s.markMove dir before).marker.direction = dir
      ∧ Reports { s with marker := { s.marker with direction := dir } } (s.markMove dir before) := by
  have h : Reports { s with marker := { s.marker with direction := dir } } (s.markMove dir before) :=
    (State.startTest_reports _ _).after
      (.silent (MarkerUnit.follow_direction s.marker dir s.travel.position) rfl rfl)
  exact ⟨h.direction, h⟩

theorem State.feedMarker_reports (s : State) (f : Finding) : Reports s (s.feedMarker f) := by
  unfold State.feedMarker
  split
  · exact .refl s
  · split
    · exact s.markFinding_reports _ f
    · exact .refl s

/-! ### Record unit -/

theorem State.makeRoom_reports (s : State) : Reports s s.makeRoom := by
  unfold State.makeRoom
  split
  · exact .refl s
  · split
    · exact .refl s
    · exact (Reports.count s (c := .recordEvict) (by decide)).then_silent rfl rfl rfl

theorem State.enterNewest_reports (s : State) (e : Entry) : Reports s (s.enterNewest e) :=
  s.makeRoom_reports.then_silent rfl rfl rfl

theorem State.enterLate_reports (s : State) (e : Entry) : Reports s (s.enterLate e) :=
  s.makeRoom_reports.then_silent rfl rfl rfl

theorem State.evict_reports (s : State) : Reports s s.evict := by
  obtain ⟨r, h⟩ := s.evict_footprint
  rw [h]
  exact .silent rfl rfl rfl

theorem State.commitEntry_reports (v : Setup) (s : State) (e : Entry) :
    Reports s (State.commitEntry v s e) := by
  cases e with
  | finding f =>
    unfold State.commitEntry
    dsimp only
    split
    · exact (State.feedMarker_reports _ _).after (.silent rfl rfl rfl)
    · exact (State.feedMarker_reports _ _).after (s.enterNewest_reports _)
  | loss o a b => exact s.enterNewest_reports _
  | gap f o a b => exact s.enterNewest_reports _

theorem commitAll_reports (v : Setup) (es : List Entry) (s : State) :
    Reports s (es.foldl (State.commitEntry v) s) := by
  induction es generalizing s with
  | nil => exact .refl s
  | cons e rest ih => exact (ih _).after (s.commitEntry_reports v e)

theorem State.commitBelow_reports (v : Setup) (h : Int) (s : State) :
    Reports s (s.commitBelow v h) :=
  (State.evict_reports _).after ((commitAll_reports v _ _).after (.silent rfl rfl rfl))

theorem State.toPending_reports (s : State) (e : Entry) : Reports s (s.toPending e) := by
  unfold State.toPending
  split
  · exact .silent rfl rfl rfl
  · exact (Reports.count _ (by decide)).after (.silent rfl rfl rfl)

theorem State.takeLate_reports (s : State) (e : Entry) : Reports s (s.takeLate e) := by
  have hc : Reports s (s.count .late) := .count s (by decide)
  cases e with
  | finding f =>
    exact (State.evict_reports _).after ((State.feedMarker_reports _ _).after
      ((State.enterLate_reports _ _).after hc))
  | loss o a b => exact (State.evict_reports _).after ((State.enterLate_reports _ _).after hc)
  | gap f o a b => exact (State.evict_reports _).after ((State.enterLate_reports _ _).after hc)

theorem State.handEntry_reports (s : State) (e : Entry) : Reports s (s.handEntry e) := by
  unfold State.handEntry
  split
  · split
    · exact .count s (by decide)
    · exact .refl s
  · split
    · exact s.takeLate_reports e
    · exact s.toPending_reports e

/-! ### Billet unit and horizon unit -/

theorem decideBillets_reports (v : Setup) (bs : List Billet) (s : State) :
    Reports s (decideBillets v bs s).2 := by
  induction bs generalizing s with
  | nil => exact .refl s
  | cons b rest ih =>
    unfold decideBillets
    split
    · rename_i tail _ _
      have h := s.handFrame_reports
        (toAll (s.verdictOf v b tail).test (.verdict (s.verdictOf v b tail)))
      dsimp only
      split
      · exact h
      · exact (ih _).after h
    · exact ih s

theorem State.verdictDecision_reports (s : State) (v : Setup) : Reports s (s.verdictDecision v) := by
  unfold State.verdictDecision
  split
  · exact (decideBillets_reports v s.billet.billets s).then_silent rfl rfl rfl
  · exact .refl s

theorem State.recomputeHorizon_reports (s : State) (v : Setup) :
    Reports s (s.recomputeHorizon v) := by
  unfold State.recomputeHorizon
  split
  · have h : Reports s
        (State.commitBelow v s.newHorizon { s with hz := { s.hz with horizon := s.newHorizon } }) :=
      (State.commitBelow_reports v _ _).after (.silent rfl rfl rfl)
    exact (State.verdictDecision_reports _ v).after (h.then_silent rfl rfl rfl)
  · exact .refl s

theorem State.horizonStep_reports (s : State) (v : Setup) : Reports s (s.horizonStep v) := by
  unfold State.horizonStep
  split
  · exact s.handFrame_reports _
  · exact .refl s

theorem State.recompute_reports (s : State) : Reports s s.recompute := by
  unfold State.recompute
  split
  · exact .refl s
  · rename_i v _
    have h : Reports s
        ({ s with hz := { s.hz with ownClearTo := s.newClearTo v } }.horizonStep v) :=
      (State.horizonStep_reports _ v).after (.silent rfl rfl rfl)
    dsimp only
    split
    · exact h
    · exact (State.recomputeHorizon_reports _ v).after h

/-! ### Tracer -/

theorem State.takeClosed_reports (v : Setup) (s : State) (t : Trace) :
    Reports s (State.takeClosed v s t) := by
  unfold State.takeClosed
  split
  · exact .refl s
  · dsimp only
    split
    · exact .count s (by decide)
    · exact (State.handFrame_reports _ _).after
        ((State.handEntry_reports _ _).after (.silent rfl rfl rfl))

theorem State.closeAll_reports (s : State) (v : Setup) (kind : CloseKind) :
    Reports s (s.closeAll v kind) := by
  have h : ∀ (ts : List Trace) (u : State), Reports u (ts.foldl (State.takeClosed v) u) := by
    intro ts
    induction ts with
    | nil => exact Reports.refl
    | cons t rest ih => exact fun u => (ih _).after (u.takeClosed_reports v t)
  exact (h _ _).after (.silent rfl rfl rfl)

/-! ### The state after reports -/

/-- The values that reports and a recomputation leave in the blocks they reach. -/
structure Reported where
  ownClearTo : Int
  horizon    : Int
  record     : RecordUnit
  billet     : BilletUnit
  marker     : MarkerUnit
  queue      : List TxFrame
  send       : SendState
  diag       : Diagnostics

/-- The state with those values: of the horizon unit the own clear-to and the strand horizon alone change,
of the transceiver the queue and the send state. -/
def State.reported (s : State) (p : Reported) : State :=
  { s with
    hz := { s.hz with ownClearTo := p.ownClearTo, horizon := p.horizon }
    record := p.record, billet := p.billet, marker := p.marker
    xcvr := { s.xcvr with queue := p.queue, send := p.send }, diag := p.diag }

theorem State.eq_reported (s : State) (r : RecordUnit) (b : BilletUnit) (m : MarkerUnit)
    (d : Diagnostics) : { s with record := r, billet := b, marker := m, diag := d }
      = s.reported ⟨s.hz.ownClearTo, s.hz.horizon, r, b, m, s.xcvr.queue, s.xcvr.send, d⟩ := rfl

theorem State.recompute_reported (s : State) : ∃ p, s.recompute = s.reported p := by
  obtain ⟨own, h, r, b, m, x, d, e⟩ := s.recompute_footprint
  obtain ⟨q, n, hx⟩ := s.recompute_reports.xcvr
  refine ⟨⟨own, h, r, b, m, q, n, d⟩, ?_⟩
  unfold State.reported
  rw [← hx, e]

/-- A forced close empties the trace table and sets the last close; all else is reports (R73, R74). -/
theorem State.closeAll_reported (s : State) (v : Setup) (kind : CloseKind) :
    ∃ i k p, s.closeAll v kind
      = { s with tracer := { s.tracer with
          slots := List.replicate Config.traceSlots none
          lastClose := some { kind := kind, position := s.travel.lastLine }
          nextId := i, made := k } }.reported p := by
  obtain ⟨i, k, r, b, m, x, d, e⟩ := s.closeAll_footprint v kind
  obtain ⟨q, n, hx⟩ := (s.closeAll_reports v kind).xcvr
  refine ⟨i, k, ⟨s.hz.ownClearTo, s.hz.horizon, r, b, m, q, n, d⟩, ?_⟩
  unfold State.reported
  rw [← hx, e]

end Sys2Proof.Machine
end

section
/-! SUPPORT. The travel unit: rounding of positions (R4, R6), the line that falls due (R7, R8), and what one
move of the count writes (R2). -/

namespace Sys2Proof.Machine

/-! ### Rounding and holding -/

theorem dvd_floorTo (pitch : Nat) (p : Int) : (pitch : Int) ∣ floorTo pitch p :=
  Dvd.intro_left _ rfl

theorem floorTo_le {pitch : Nat} (h : 1 ≤ pitch) (p : Int) : floorTo pitch p ≤ p :=
  Int.ediv_mul_le p (by omega)

theorem lt_floorTo_add {pitch : Nat} (h : 1 ≤ pitch) (p : Int) : p < floorTo pitch p + pitch := by
  have hlt : p < (p / (pitch : Int) + 1) * pitch := Int.lt_ediv_add_one_mul_self p (by omega)
  unfold floorTo
  linarith

/-- A multiple of the pitch at or below a position is at or below its line position. -/
theorem le_floorTo {pitch : Nat} (h : 1 ≤ pitch) {a p : Int} (ha : (pitch : Int) ∣ a) (hp : a ≤ p) :
    a ≤ floorTo pitch p := by
  have hk : a / (pitch : Int) * pitch = a := Int.ediv_mul_cancel ha
  have hle : a / (pitch : Int) ≤ p / (pitch : Int) := Int.ediv_le_ediv (by omega) hp
  calc a = a / (pitch : Int) * pitch := hk.symm
    _ ≤ p / (pitch : Int) * pitch := Int.mul_le_mul_of_nonneg_right hle (by omega)

theorem le_hold {lo hi : Int} (v : Int) : lo ≤ hold lo hi v := le_max_left _ _

theorem hold_le {lo hi : Int} (h : lo ≤ hi) (v : Int) : hold lo hi v ≤ hi :=
  max_le h (min_le_left _ _)

theorem hold_of_mem {lo hi v : Int} (hlo : lo ≤ v) (hhi : v ≤ hi) : hold lo hi v = v := by
  unfold hold
  rw [min_eq_right hhi, max_eq_right hlo]

/-- The position is the floor of the quotient of R4, within 32 bits. -/
theorem positionOf_eq_of_floor {v : Setup} {count q : Int} (hv : 1 ≤ v.countsPerMetre)
    (hlo : q * v.countsPerMetre ≤ count * 10000) (hhi : count * 10000 < (q + 1) * v.countsPerMetre) :
    positionOf (some v) count = holdPosition q := by
  have hpos : (0 : Int) < v.countsPerMetre := by omega
  have hq : count * 10000 / (v.countsPerMetre : Int) = q :=
    le_antisymm (Int.lt_add_one_iff.mp (Int.ediv_lt_of_lt_mul hpos hhi))
      ((Int.le_ediv_iff_mul_le hpos).mpr hlo)
  exact congrArg holdPosition hq

/-! ### The travel invariant, by the setup -/

theorem travelInv_none {s : State} (h : s.ctl.setup = none) :
    TravelInv s ↔ -Config.countMax - 1 ≤ s.travel.count ∧ s.travel.count ≤ Config.countMax
      ∧ s.travel.position = 0 ∧ s.travel.highWater = 0 ∧ s.travel.lastLine = 0 := by
  unfold TravelInv
  rw [h]
  simp only [positionOf]
  tauto

theorem travelInv_some {s : State} {v : Setup} (h : s.ctl.setup = some v) :
    TravelInv s ↔ -Config.countMax - 1 ≤ s.travel.count ∧ s.travel.count ≤ Config.countMax
      ∧ s.travel.position = positionOf (some v) s.travel.count
      ∧ 1 ≤ v.linePitch ∧ 0 ≤ s.travel.highWater
      ∧ s.travel.position ≤ s.travel.highWater ∧ s.travel.lastLine ≤ s.travel.highWater
      ∧ (v.linePitch : Int) ∣ s.travel.lastLine := by
  unfold TravelInv
  rw [h]

theorem TravelInv.position_eq {s : State} (h : TravelInv s) :
    s.travel.position = positionOf s.ctl.setup s.travel.count := h.2.2.1

theorem TravelInv.position_le {s : State} (h : TravelInv s) :
    s.travel.position ≤ s.travel.highWater := by
  cases hv : s.ctl.setup with
  | none =>
    obtain ⟨-, -, hp, hw, -⟩ := (travelInv_none hv).mp h
    rw [hp, hw]
  | some v =>
    obtain ⟨-, -, -, -, -, hp, -⟩ := (travelInv_some hv).mp h
    exact hp

/-! ### Lines (R7, R8) -/

theorem State.isLineDue_iff (s : State) (v : Setup) :
    s.isLineDue v = true ↔ s.ctl.mode = .inspecting ∧ s.travel.strand = .asserted
      ∧ s.travel.gate = .opened ∧ s.travel.lastLine + v.linePitch ≤ s.travel.position := by
  simp [State.isLineDue, and_assoc]

theorem State.lineDue_of_not_due {s : State} {v : Setup} (h : ¬ s.isLineDue v = true) :
    s.lineDue v = s := if_neg h

/-- A due line is requested where none is in flight (R8). -/
theorem State.lineDue_of_idle {s : State} {v : Setup} (h : s.isLineDue v = true)
    (hl : s.head.line = none) :
    s.lineDue v = { s with travel := { s.travel with
      lastLine := floorTo v.linePitch s.travel.position } }.requestLine
        (floorTo v.linePitch s.travel.position) := by
  unfold State.lineDue
  rw [if_pos h, hl]
  rfl

/-- A due line is an overrun where one is in flight (R8). -/
theorem State.lineDue_of_busy {s : State} {v : Setup} (h : s.isLineDue v = true)
    (hl : s.head.line ≠ none) :
    s.lineDue v = ({ s with travel := { s.travel with
      lastLine := floorTo v.linePitch s.travel.position } }.count .lineOverrun).noteLine v
        (floorTo v.linePitch s.travel.position) := by
  unfold State.lineDue
  rw [if_pos h, if_neg (by simpa using hl)]

/-- The test for a due line writes the last line position, the request, the note list and the overrun
counter. -/
theorem State.lineDue_footprint (s : State) (v : Setup) :
    ∃ g l m k d, s.lineDue v
      = { s with travel := { s.travel with
                   lastLine := if s.isLineDue v = true then floorTo v.linePitch s.travel.position
                     else s.travel.lastLine }
                 head := { s.head with tag := g, line := l, sent := m }
                 hz := { s.hz with notes := k }, diag := d } := by
  by_cases h : s.isLineDue v = true
  · rw [if_pos h]
    by_cases hl : s.head.line = none
    · exact ⟨_, _, _, _, _, State.lineDue_of_idle h hl⟩
    · exact ⟨_, _, _, _, _, State.lineDue_of_busy h hl⟩
  · rw [if_neg h, State.lineDue_of_not_due h]
    exact ⟨_, _, _, _, _, rfl⟩

/-! ### The high-water and the last line position (R5, R6) -/

/-- Does the line position follow the high-water? It does where the high-water rises in INSPECTING while
the gate is SHUT (R6). -/
def State.lineFollows (s : State) : Bool :=
  s.travel.highWater < s.travel.position && s.ctl.mode == .inspecting && s.travel.gate == .shut

theorem State.lineFollows_iff (s : State) :
    s.lineFollows = true ↔ s.travel.highWater < s.travel.position ∧ s.ctl.mode = .inspecting
      ∧ s.travel.gate = .shut := by
  simp [State.lineFollows, and_assoc]

theorem State.raiseHighWater_eq (s : State) (v : Setup) :
    s.raiseHighWater v = { s with travel := { s.travel with
      highWater := max s.travel.highWater s.travel.position
      lastLine := if s.lineFollows then floorTo v.linePitch s.travel.position
        else s.travel.lastLine } } := by
  unfold State.raiseHighWater
  by_cases h : s.travel.highWater < s.travel.position
  · simp [State.lineFollows, h, max_eq_right h.le]
  · simp [State.lineFollows, h, max_eq_left (not_lt.mp h)]

/-- Whether a line is due does not change with the high-water: a line position that follows it does so
under a SHUT gate, at which none is due. -/
theorem State.isLineDue_raiseHighWater (s : State) (v : Setup) :
    (s.raiseHighWater v).isLineDue v = s.isLineDue v := by
  rw [Bool.eq_iff_iff, State.isLineDue_iff, State.isLineDue_iff, State.raiseHighWater_eq]
  by_cases hg : s.travel.gate = .opened
  · simp [State.lineFollows, hg]
  · simp [hg]

/-- The last line position after the position has changed (R6 to R8). -/
def State.lineAfter (s : State) (v : Setup) : Int :=
  if s.isLineDue v = true then floorTo v.linePitch s.travel.position
  else if s.lineFollows then floorTo v.linePitch s.travel.position
  else s.travel.lastLine

theorem State.positionChanged_eq {s : State} {v : Setup} (hv : s.ctl.setup = some v) :
    s.positionChanged = (s.raiseHighWater v).lineDue v := by
  unfold State.positionChanged
  rw [hv]

theorem State.positionChanged_footprint {s : State} {v : Setup} (hv : s.ctl.setup = some v) :
    ∃ g l m k d, s.positionChanged
      = { s with travel := { s.travel with
                   highWater := max s.travel.highWater s.travel.position
                   lastLine := s.lineAfter v }
                 head := { s.head with tag := g, line := l, sent := m }
                 hz := { s.hz with notes := k }, diag := d } := by
  obtain ⟨g, l, m, k, d, h⟩ := (s.raiseHighWater v).lineDue_footprint v
  refine ⟨g, l, m, k, d, ?_⟩
  rw [State.positionChanged_eq hv, h, s.isLineDue_raiseHighWater v, s.raiseHighWater_eq v]
  rfl

/-- The last line position never falls, keeps to multiples of the pitch and stays at or below the
high-water (R5 to R8). -/
theorem State.lineAfter_bounds {s : State} {v : Setup} (hp : 1 ≤ v.linePitch)
    (hd : (v.linePitch : Int) ∣ s.travel.lastLine) (hl : s.travel.lastLine ≤ s.travel.highWater) :
    s.travel.lastLine ≤ s.lineAfter v ∧ (v.linePitch : Int) ∣ s.lineAfter v
      ∧ s.lineAfter v ≤ max s.travel.highWater s.travel.position := by
  have hdue : s.travel.lastLine ≤ s.travel.position →
      s.travel.lastLine ≤ floorTo v.linePitch s.travel.position
      ∧ (v.linePitch : Int) ∣ floorTo v.linePitch s.travel.position
      ∧ floorTo v.linePitch s.travel.position ≤ max s.travel.highWater s.travel.position :=
    fun h => ⟨le_floorTo hp hd h, dvd_floorTo _ _, le_max_of_le_right (floorTo_le hp _)⟩
  unfold State.lineAfter
  split
  · rename_i h
    obtain ⟨-, -, -, h⟩ := (s.isLineDue_iff v).mp h
    exact hdue (by omega)
  · split
    · rename_i h
      obtain ⟨h, -, -⟩ := s.lineFollows_iff.mp h
      exact hdue (hl.trans h.le)
    · exact ⟨le_rfl, hd, le_max_of_le_left hl⟩

/-! ### A move of the count (R2) -/

/-- The count moved by a step, within its limits (R2). -/
def State.countAfter (s : State) (step : Int) : Int :=
  hold (-Config.countMax - 1) Config.countMax (s.travel.count + step)

/-- The position of the count moved by a step (R4). -/
def State.positionAfter (s : State) (step : Int) : Int := positionOf s.ctl.setup (s.countAfter step)

/-- The state with count and position moved, before anything follows them. -/
def State.turned (s : State) (step : Int) : State :=
  { s with travel := { s.travel with
      count := s.countAfter step, position := s.positionAfter step } }

theorem State.moveCount_of_eq {s : State} {step : Int} (h : s.countAfter step = s.travel.count)
    (dir : Direction) : s.moveCount dir step = s := if_pos h

theorem State.moveCount_of_ne {s : State} {step : Int} (h : s.countAfter step ≠ s.travel.count)
    (dir : Direction) : s.moveCount dir step
      = ((if s.positionAfter step = s.travel.position then s.turned step
          else (s.turned step).positionChanged).markMove dir s.travel.position).recomputeIfMoved s :=
  if_neg h

theorem State.recomputeIfMoved_reported (s old : State) :
    ∃ p, s.recomputeIfMoved old = s.reported p := by
  unfold State.recomputeIfMoved
  split
  · exact ⟨_, s.eq_reported s.record s.billet s.marker s.diag⟩
  · exact s.recompute_reported

theorem State.recomputeIfMoved_reports (s old : State) : Reports s (s.recomputeIfMoved old) := by
  unfold State.recomputeIfMoved
  split
  · exact .refl s
  · exact s.recompute_reports

/-- What follows a move in the marker unit and the horizon unit: the direction, and reports. -/
theorem State.afterMove_reported (s old : State) (dir : Direction) (before : Int) :
    ∃ p, (s.markMove dir before).recomputeIfMoved old = s.reported p ∧ p.marker.direction = dir
      ∧ State.counter ((s.markMove dir before).recomputeIfMoved old) .lineOverrun
          = s.counter .lineOverrun := by
  obtain ⟨m, d, hm⟩ := s.markMove_footprint dir before
  obtain ⟨hdir, hrep⟩ := s.markMove_reports dir before
  have hk := (s.markMove dir before).recomputeIfMoved_reports old
  obtain ⟨p, he⟩ := (s.markMove dir before).recomputeIfMoved_reported old
  refine ⟨p, by rw [he, hm]; rfl, ?_, ?_⟩
  · rw [← hdir, ← hk.direction, he]
    rfl
  · exact (hk.counter _ (by decide)).trans (hrep.counter _ (by decide))

/-- Where the last line position may stand after a move to the high-water `w`. -/
def State.LineMayReach (s : State) (w l : Int) : Prop :=
  s.travel.lastLine ≤ l ∧ (s.ctl.setup = none → l = s.travel.lastLine)
    ∧ ∀ v, s.ctl.setup = some v → (v.linePitch : Int) ∣ l ∧ l ≤ w

theorem TravelInv.lineMayStay {s : State} (hs : TravelInv s) :
    s.LineMayReach s.travel.highWater s.travel.lastLine := by
  refine ⟨le_rfl, fun _ => rfl, fun v hv => ?_⟩
  obtain ⟨-, -, -, -, -, -, hl, hd⟩ := (travelInv_some hv).mp hs
  exact ⟨hd, hl⟩

/-- What the travel unit itself writes as the count moves: count, position, high-water and last line
position, the line request, the note list and the overrun counter (R2 to R8). -/
theorem State.turned_effect {s : State} (hs : TravelInv s) (step : Int) :
    ∃ l g ln sent k d,
      (if s.positionAfter step = s.travel.position then s.turned step
        else (s.turned step).positionChanged)
      = { s with
          travel := { s.travel with
            count := s.countAfter step, position := s.positionAfter step
            highWater := max s.travel.highWater (s.positionAfter step), lastLine := l }
          head := { s.head with tag := g, line := ln, sent := sent }
          hz := { s.hz with notes := k }, diag := d }
      ∧ s.LineMayReach (max s.travel.highWater (s.positionAfter step)) l := by
  by_cases hp : s.positionAfter step = s.travel.position
  · rw [if_pos hp]
    unfold State.turned
    rw [hp, max_eq_left hs.position_le]
    exact ⟨_, _, _, _, _, _, rfl, hs.lineMayStay⟩
  · cases hv : s.ctl.setup with
    | none =>
      obtain ⟨-, -, h0, -⟩ := (travelInv_none hv).mp hs
      exact absurd (by rw [h0, State.positionAfter, hv]; rfl) hp
    | some v =>
      obtain ⟨-, -, -, hpitch, -, -, hl, hd⟩ := (travelInv_some hv).mp hs
      obtain ⟨g, ln, sent, k, d, hf⟩ := (s.turned step).positionChanged_footprint (v := v) hv
      obtain ⟨hle, hdvd, hmax⟩ := State.lineAfter_bounds (s := s.turned step) hpitch hd hl
      rw [if_neg hp, hf]
      refine ⟨_, _, _, _, _, _, rfl, hle, fun hn => absurd (hv.symm.trans hn) (by simp), ?_⟩
      intro w hw
      obtain rfl : v = w := Option.some.inj (hv.symm.trans hw)
      exact ⟨hdvd, hmax⟩

/-- What a move of the count writes, with what the marker unit and the horizon unit make of it (R2). -/
theorem State.moveCount_effect {s : State} (hs : TravelInv s) (dir : Direction) (step : Int) :
    ∃ l g ln sent k p, s.moveCount dir step
      = { s with
          travel := { s.travel with
            count := s.countAfter step, position := s.positionAfter step
            highWater := max s.travel.highWater (s.positionAfter step), lastLine := l }
          head := { s.head with tag := g, line := ln, sent := sent }
          hz := { s.hz with notes := k } }.reported p
      ∧ s.LineMayReach (max s.travel.highWater (s.positionAfter step)) l
      ∧ (s.countAfter step ≠ s.travel.count → p.marker.direction = dir) := by
  by_cases hc : s.countAfter step = s.travel.count
  · have hp : s.positionAfter step = s.travel.position := by
      rw [hs.position_eq, State.positionAfter, hc]
    rw [State.moveCount_of_eq hc, hp, hc, max_eq_left hs.position_le]
    exact ⟨_, _, _, _, _, _, s.eq_reported s.record s.billet s.marker s.diag, hs.lineMayStay,
      fun h => absurd rfl h⟩
  · obtain ⟨l, g, ln, sent, k, d, hu, hl⟩ := State.turned_effect hs step
    obtain ⟨p, he, hdir, -⟩ := State.afterMove_reported
      (if s.positionAfter step = s.travel.position then s.turned step
        else (s.turned step).positionChanged) s dir s.travel.position
    rw [State.moveCount_of_ne hc, he, hu]
    exact ⟨l, g, ln, sent, k, p, rfl, hl, fun _ => hdir⟩

/-! ### The encoder pair (R2, R3) -/

/-- The forward steps of R2 are the pairs that turn forward. -/
theorem mem_forwardSteps_iff (p q : Bool × Bool) :
    (p, q) ∈ forwardSteps ↔ turnOf p q = .forward := by
  revert p q
  decide

theorem mem_forwardSteps_swap_iff (p q : Bool × Bool) :
    (q, p) ∈ forwardSteps ↔ turnOf p q = .reverse := by
  revert p q
  decide

theorem turnOf_self (p : Bool × Bool) : turnOf p p = .still := if_pos rfl

theorem turnOf_of_both_differ {p : Bool × Bool} {a b : Bool} (ha : a ≠ p.1) (hb : b ≠ p.2) :
    turnOf p (a, b) = .illegal := by
  revert p a b
  decide

/-- The state in which a legal step finds the node: the pair taken (R2). -/
def State.withPhase (s : State) (a b : Bool) : State :=
  { s with travel := { s.travel with phase := (a, b) } }

theorem State.takePair_of_forward {s : State} {a b : Bool}
    (h : turnOf s.travel.phase (a, b) = .forward) :
    s.takePair a b = (s.withPhase a b).moveCount .forward 1 := by
  unfold State.takePair
  simp only [h]
  rfl

theorem State.takePair_of_reverse {s : State} {a b : Bool}
    (h : turnOf s.travel.phase (a, b) = .reverse) :
    s.takePair a b = (s.withPhase a b).moveCount .reverse (-1) := by
  unfold State.takePair
  simp only [h]
  rfl

theorem State.takePair_of_still {s : State} {a b : Bool}
    (h : turnOf s.travel.phase (a, b) = .still) : s.takePair a b = s := by
  unfold State.takePair
  simp only [h]

theorem State.takePair_of_illegal {s : State} {a b : Bool}
    (h : turnOf s.travel.phase (a, b) = .illegal) :
    s.takePair a b = ((s.withPhase a b).setFlag .encoder).count .encFault := by
  unfold State.takePair
  simp only [h]
  rfl

/-! ### The six commands, as the events they are -/

theorem exec_encoderTransition (dt : Nat) (a b : Bool) (s : State) :
    exec (.encoderTransition dt a b) s
      = inputEvent dt (fun p => { p with encA := a, encB := b }) (State.takePair · a b) s := rfl

theorem exec_strandRise (dt : Nat) (s : State) :
    exec (.strandRise dt) s = inputEvent dt (fun p => { p with strand := true })
      (if s.pins.strand then id else State.takeRise) s := rfl

theorem exec_strandFall (dt : Nat) (s : State) :
    exec (.strandFall dt) s = inputEvent dt (fun p => { p with strand := false })
      (if s.pins.strand then State.takeFall else id) s := rfl

theorem exec_dropoutTimerExpiry (dt : Nat) (s : State) :
    exec (.dropoutTimerExpiry dt) s = event dt State.takeDropout s := rfl

theorem exec_gateChange (dt : Nat) (high : Bool) (s : State) :
    exec (.gateChange dt high) s
      = inputEvent dt (fun p => { p with gate := high }) (State.takeGate · high) s := rfl

theorem exec_cutInputEdge (dt : Nat) (high : Bool) (s : State) :
    exec (.cutInputEdge dt high) s
      = inputEvent dt (fun p => { p with cut := high }) (State.takeCutLevel · high) s := rfl

end Sys2Proof.Machine
end

section
/-! SUPPORT. Count, position, high-water and last line position over one step (O57): the commands that leave
all four alone, and the six that move them. -/

namespace Sys2Proof.Machine

/-! ### The odometer -/

/-- What the travel invariant speaks of: setup, count, position, high-water and last line position. -/
def State.odometer (s : State) : Option Setup × Int × Int × Int × Int :=
  (s.ctl.setup, s.travel.count, s.travel.position, s.travel.highWater, s.travel.lastLine)

theorem odometer_eq_iff (s t : State) :
    t.odometer = s.odometer ↔ t.ctl.setup = s.ctl.setup ∧ t.travel.count = s.travel.count
      ∧ t.travel.position = s.travel.position ∧ t.travel.highWater = s.travel.highWater
      ∧ t.travel.lastLine = s.travel.lastLine := by
  simp [State.odometer]

/-- The travel invariant holds in `t`, and neither high-water nor last line position is below that of `s`. -/
structure TravelRises (s t : State) : Prop where
  inv : TravelInv t
  highWater : s.travel.highWater ≤ t.travel.highWater
  lastLine : s.travel.lastLine ≤ t.travel.lastLine

theorem TravelInv.of_odometer {s t : State} (h : TravelInv s) (e : t.odometer = s.odometer) :
    TravelInv t := by
  obtain ⟨hs, hc, hp, hw, hl⟩ := (odometer_eq_iff s t).mp e
  unfold TravelInv
  rw [hs, hc, hp, hw, hl]
  exact h

theorem TravelInv.rises_of_odometer {s t : State} (h : TravelInv s) (e : t.odometer = s.odometer) :
    TravelRises s t := by
  obtain ⟨-, -, -, hw, hl⟩ := (odometer_eq_iff s t).mp e
  exact ⟨h.of_odometer e, hw.ge, hl.ge⟩

/-- Before and after a rise other blocks may change. -/
theorem TravelRises.of_odometer {s s' t t' : State} (h : TravelRises s t)
    (e : s.odometer = s'.odometer) (e' : t'.odometer = t.odometer) : TravelRises s' t' := by
  obtain ⟨-, -, -, hw, hl⟩ := (odometer_eq_iff s' s).mp e
  obtain ⟨-, -, -, hw', hl'⟩ := (odometer_eq_iff t t').mp e'
  exact ⟨h.inv.of_odometer e', by rw [← hw, hw']; exact h.highWater,
    by rw [← hl, hl']; exact h.lastLine⟩

theorem TravelInv.rises_after {s s' t : State} (hs : TravelInv s)
    (h : TravelInv s' → TravelRises s' t) (e : s'.odometer = s.odometer) : TravelRises s t :=
  (h (hs.of_odometer e)).of_odometer e rfl

/-! ### The shared operations leave the odometer alone -/

@[simp] theorem odometer_handFrame (s : State) (f : TxFrame) :
    (s.handFrame f).odometer = s.odometer := by
  obtain ⟨x, d, h⟩ := s.handFrame_footprint f
  rw [h]; rfl

@[simp] theorem odometer_handEntry (s : State) (e : Entry) :
    (s.handEntry e).odometer = s.odometer := by
  obtain ⟨r, b, m, d, h⟩ := s.handEntry_footprint e
  rw [h]; rfl

@[simp] theorem odometer_closeGap (s : State) (face subject : Nat) (start stop : Int) :
    (s.closeGap face subject start stop).odometer = s.odometer := by
  obtain ⟨r, h⟩ := s.closeGap_footprint face subject start stop
  rw [h]; rfl

@[simp] theorem odometer_verdictDecision (s : State) (v : Setup) :
    (s.verdictDecision v).odometer = s.odometer := by
  obtain ⟨b, x, d, h⟩ := s.verdictDecision_footprint v
  rw [h]; rfl

@[simp] theorem odometer_takeCut (s : State) (v : Setup) (received : Bool) (number : Nat)
    (position : Int) : (s.takeCut v received number position).odometer = s.odometer := by
  obtain ⟨r, b, x, d, c, h⟩ := s.takeCut_footprint v received number position
  rw [h]; rfl

@[simp] theorem odometer_hearVerdict (s : State) (heard : Verdict) :
    (s.hearVerdict heard).odometer = s.odometer := by
  obtain ⟨b, d, h⟩ := s.hearVerdict_footprint heard
  rw [h]; rfl

@[simp] theorem odometer_recomputeHorizon (s : State) (v : Setup) :
    (s.recomputeHorizon v).odometer = s.odometer := by
  obtain ⟨r, b, m, x, d, h⟩ := s.recomputeHorizon_footprint v
  rw [h]; rfl

@[simp] theorem odometer_recompute (s : State) : s.recompute.odometer = s.odometer := by
  obtain ⟨own, h, r, b, m, x, d, e⟩ := s.recompute_footprint
  rw [e]; rfl

@[simp] theorem odometer_recomputeIfMoved (s old : State) :
    (s.recomputeIfMoved old).odometer = s.odometer := by
  obtain ⟨p, e⟩ := s.recomputeIfMoved_reported old
  rw [e]; rfl

@[simp] theorem odometer_openOwnGap (s : State) (v : Setup) :
    (s.openOwnGap v).odometer = s.odometer := by
  obtain ⟨r, b, m, d, h⟩ := s.openOwnGap_footprint v
  rw [h]; rfl

@[simp] theorem odometer_coveringTest (s : State) (v : Setup) :
    (s.coveringTest v).odometer = s.odometer := by
  obtain ⟨g, r, b, m, d, h⟩ := s.coveringTest_footprint v
  rw [h]; rfl

@[simp] theorem odometer_dueTest (s : State) : s.dueTest.odometer = s.odometer := by
  obtain ⟨h, c, e⟩ := s.dueTest_footprint
  rw [e]; rfl

@[simp] theorem odometer_lineBoundary (s : State) (v : Setup) :
    (s.lineBoundary v).odometer = s.odometer := by
  obtain ⟨h, c, e⟩ := s.lineBoundary_footprint v
  rw [e]; rfl

@[simp] theorem odometer_stopReference (s : State) : s.stopReference.odometer = s.odometer := by
  obtain ⟨h, e⟩ := s.stopReference_footprint
  rw [e]; rfl

@[simp] theorem odometer_startAll (s : State) : s.startAll.odometer = s.odometer := by
  obtain ⟨h, c, k, e⟩ := s.startAll_footprint
  rw [e]; rfl

@[simp] theorem odometer_truncateByFault (s : State) :
    s.truncateByFault.odometer = s.odometer := by
  obtain ⟨h, c, k, e⟩ := s.truncateByFault_footprint
  rw [e]; rfl

@[simp] theorem odometer_truncateCycle (s : State) (i : Fin 8) (n : Nat) :
    (s.truncateCycle i n).odometer = s.odometer := by
  have h : (s.stopReference.endReference (.segment i) n).odometer = s.odometer :=
    odometer_stopReference s
  unfold State.truncateCycle
  dsimp only
  split <;> exact h

@[simp] theorem odometer_traceLine (s : State) (v : Setup) (line : ProcessedLine) :
    (s.traceLine v line).odometer = s.odometer := by
  obtain ⟨t, k, r, b, m, x, d, h⟩ := s.traceLine_footprint v line
  rw [h]; rfl

@[simp] theorem odometer_closeAll (s : State) (v : Setup) (kind : CloseKind) :
    (s.closeAll v kind).odometer = s.odometer := by
  obtain ⟨i, n, r, b, m, x, d, h⟩ := s.closeAll_footprint v kind
  rw [h]; rfl

@[simp] theorem odometer_abortBuild (s : State) : s.abortBuild.odometer = s.odometer := by
  obtain ⟨k, h⟩ := s.abortBuild_footprint
  rw [h]; rfl

@[simp] theorem odometer_correctLine (s : State) (v : Setup) (line : LineInFlight)
    (raw : List (BitVec 12)) (withheld : SegMask) :
    (s.correctLine v line raw withheld).odometer = s.odometer := by
  obtain ⟨c, a, k, n, d, h⟩ := s.correctLine_footprint v line raw withheld
  rw [h]; rfl

/-! ### Head port, scheduler and tracer -/

@[simp] theorem odometer_takeStale (s : State) : s.takeStale.odometer = s.odometer := by
  unfold State.takeStale
  split <;> rfl

theorem odometer_recover (s : State) : s.recover.odometer = s.odometer := by
  unfold State.recover
  simp only [odometer_recompute, odometer_startAll]
  rfl

theorem odometer_takeLine (s : State) (line : LineInFlight) (raw : List (BitVec 12))
    (withheld : SegMask) : (s.takeLine line raw withheld).odometer = s.odometer := by
  unfold State.takeLine
  dsimp only
  split
  · rfl
  · split <;> simp only [odometer_recompute, odometer_correctLine] <;> rfl

theorem odometer_takeArrival (s : State) (tag : BitVec 8) (raw : List (BitVec 12))
    (withheld : SegMask) : (s.takeArrival tag raw withheld).odometer = s.odometer := by
  unfold State.takeArrival
  split
  · exact odometer_takeLine s _ raw withheld
  · split
    · exact odometer_recover s
    · exact odometer_takeStale s

theorem odometer_abandonNoted (s : State) (v : Setup) : (s.abandonNoted v).odometer = s.odometer := by
  unfold State.abandonNoted
  split <;> rfl

theorem odometer_enterHeadFault (s : State) (v : Setup) :
    (s.enterHeadFault v).odometer = s.odometer := by
  have h : (((s.setFlag .headFault).setMode .headFault).abandonNoted v).truncateByFault.odometer
      = s.odometer := by
    rw [odometer_truncateByFault, odometer_abandonNoted]
    rfl
  unfold State.enterHeadFault
  simp only [odometer_coveringTest, odometer_abortBuild, odometer_closeAll]
  exact h

theorem odometer_countTimeout (s : State) (v : Setup) : (s.countTimeout v).odometer = s.odometer := by
  unfold State.countTimeout
  dsimp only
  split
  · exact odometer_enterHeadFault _ v
  · rfl

theorem odometer_takeLineTimeout (s : State) : s.takeLineTimeout.odometer = s.odometer := by
  unfold State.takeLineTimeout
  split
  · split
    · unfold State.timeOutLine
      rw [odometer_recompute, odometer_countTimeout]
      rfl
    · rfl
  · rfl

theorem odometer_timeOutReadout (s : State) (v : Setup) (r : Reference) :
    (s.timeOutReadout v r).odometer = s.odometer := by
  have hseg : ∀ i, (((s.count .lineTimeout).truncateCycle i r.taken).countTimeout v).odometer
      = s.odometer := fun i => by
    rw [odometer_countTimeout, odometer_truncateCycle]
    rfl
  have hall : (((s.count .lineTimeout).renewRequest r.taken).countTimeout v).odometer
      = s.odometer := by
    rw [odometer_countTimeout]
    rfl
  unfold State.timeOutReadout
  dsimp only
  split <;> split
  · exact (odometer_recompute _).trans (hseg _)
  · exact (odometer_dueTest _).trans (hseg _)
  · exact (odometer_recompute _).trans hall
  · exact hall

theorem odometer_takeReadoutTimeout (s : State) : s.takeReadoutTimeout.odometer = s.odometer := by
  unfold State.takeReadoutTimeout
  split
  · split
    · exact odometer_timeOutReadout s _ _
    · rfl
  · rfl

theorem odometer_takeProbeTimer (s : State) : s.takeProbeTimer.odometer = s.odometer := by
  unfold State.takeProbeTimer
  split
  · rfl
  · split
    · dsimp only
      split <;> rfl
    · rfl

theorem odometer_takeProbeTimeout (s : State) : s.takeProbeTimeout.odometer = s.odometer := by
  unfold State.takeProbeTimeout
  split <;> rfl

theorem odometer_takeTick (s : State) : s.takeTick.odometer = s.odometer := by
  unfold State.takeTick
  split
  · split
    · exact odometer_dueTest _
    · rfl
  · rfl

theorem odometer_discardLine (s : State) (v : Setup) (line : ProcessedLine) :
    (s.discardLine v line).odometer = s.odometer := by
  unfold State.discardLine
  split <;> rfl

theorem odometer_takeProcessed (s : State) : s.takeProcessed.odometer = s.odometer := by
  unfold State.takeProcessed
  split
  · dsimp only
    split
    · exact (odometer_recompute _).trans (odometer_discardLine _ _ _)
    · simp only [odometer_lineBoundary, odometer_recompute, odometer_traceLine]
      rfl
  · rfl

/-! ### The sending side -/

theorem odometer_tryToSend (s : State) : s.tryToSend.odometer = s.odometer := by
  unfold State.tryToSend
  split
  · split <;> rfl
  · rfl

theorem odometer_loseArbitration (s : State) : s.loseArbitration.odometer = s.odometer := by
  unfold State.loseArbitration
  split <;> rfl

theorem odometer_reportDrop (s : State) (body : TxBody) :
    (s.reportDrop body).odometer = s.odometer := by
  cases body with
  | finding f n => exact odometer_recompute s
  | verdict v => rfl
  | horizon => rfl
  | cut n p => rfl
  | announce id strand face cause mode => rfl
  | status bytes => rfl

theorem odometer_collide (s : State) : s.collide.odometer = s.odometer := by
  unfold State.collide
  split
  · dsimp only
    split
    · rfl
    · split
      · rfl
      · exact odometer_reportDrop _ _
  · rfl

theorem odometer_deliverNote (s : State) : s.deliverNote.odometer = s.odometer := by
  unfold State.deliverNote
  split
  · rfl
  · exact (odometer_recompute _).trans (odometer_handEntry _ _)

theorem odometer_reportSent (s : State) (body : TxBody) (clearTo : Option Int) :
    (s.reportSent body clearTo).odometer = s.odometer := by
  cases body with
  | finding f n => exact odometer_recompute s
  | horizon =>
    unfold State.reportSent State.horizonSent
    dsimp only
    split
    · rfl
    · exact odometer_deliverNote _
  | verdict v => rfl
  | cut n p => rfl
  | announce id strand face cause mode => rfl
  | status bytes => rfl

theorem odometer_sentWhole (s : State) : s.sentWhole.odometer = s.odometer := by
  unfold State.sentWhole
  split
  · dsimp only
    split
    · rfl
    · exact odometer_reportSent _ _ _
  · rfl

theorem odometer_frameBegins (s : State) : s.frameBegins.odometer = s.odometer := by
  unfold State.frameBegins
  split <;> rfl

theorem odometer_firstIdle (s : State) : s.firstIdle.odometer = s.odometer := by
  unfold State.firstIdle
  split <;> rfl

/-! ### Reception -/

/-- A frame that has passed every check has passed FORM and STATE (R101, R102). -/
theorem State.qualify_passed {s : State} {c : FrameClass} {h : FrameHead} {body : List Byte}
    (e : s.qualify c = .passed h body) : formOk c h body = true ∧ s.stateOk c = true := by
  unfold State.qualify at e
  dsimp only at e
  split_ifs at e with _ _ _ _ hform hstate
  cases e
  exact ⟨by simpa using hform, by simpa using hstate⟩

/-- A frame's end leaves the odometer alone, but for what its hand-off does. -/
theorem odometer_receive_or_hand (s : State) (c : FrameClass) (f : RxFrame)
    (hand : FrameHead → List Byte → State → State) :
    (s.receive c f hand).odometer = s.odometer
      ∨ ∃ h body, (s.load f).qualify c = .passed h body
          ∧ s.receive c f hand = hand h body (s.load f).endFrame := by
  unfold State.receive
  split
  · exact .inl rfl
  · split
    · exact .inl (odometer_firstIdle s)
    · split
      · exact .inl rfl
      · exact .inl rfl
      · exact .inl rfl
      · rename_i h body hq
        exact .inr ⟨h, body, hq, rfl⟩

theorem odometer_receive {hand : FrameHead → List Byte → State → State}
    (hh : ∀ h body u, (hand h body u).odometer = u.odometer) (c : FrameClass) (f : RxFrame)
    (s : State) : (s.receive c f hand).odometer = s.odometer := by
  obtain h | ⟨h, body, -, e⟩ := odometer_receive_or_hand s c f hand
  · exact h
  · rw [e, hh]
    rfl

/-! ### Frames from peers and stations -/

@[simp] theorem odometer_hear (s : State) (sender : Nat) : (s.hear sender).odometer = s.odometer := by
  unfold State.hear
  split <;> rfl

@[simp] theorem odometer_liveChanged (s : State) : s.liveChanged.odometer = s.odometer := by
  unfold State.liveChanged
  split
  · rfl
  · rw [odometer_verdictDecision, odometer_recomputeHorizon]

@[simp] theorem odometer_testFace (s : State) (sender face : Nat) :
    (s.testFace sender face).odometer = s.odometer := by
  unfold State.testFace
  split <;> rfl

@[simp] theorem odometer_handLeavingGap (s : State) (p : Peer) :
    (s.handLeavingGap p).odometer = s.odometer := by
  unfold State.handLeavingGap
  split
  · rfl
  · exact odometer_handEntry _ _

@[simp] theorem odometer_setPeer (s : State) (p : Peer) :
    (s.setPeer p).odometer = s.odometer := rfl

@[simp] theorem odometer_reportMissed (s : State) (missed sender : Nat) (a : Option Int) (b : Int) :
    (s.reportMissed missed sender a b).odometer = s.odometer := by
  unfold State.reportMissed
  split
  · rfl
  · exact odometer_handEntry _ _

theorem odometer_takeCutFrame (h : FrameHead) (body : List Byte) (s : State) :
    (State.takeCutFrame h body s).odometer = s.odometer := by
  unfold State.takeCutFrame
  split
  · rfl
  · split
    · unfold State.placeCut
      split
      · exact odometer_hear s _
      · rw [odometer_takeCut, odometer_hear]
    · rfl

theorem odometer_placeFinding (s : State) (p : Peer) (offset : Int) (f : Finding) :
    (s.placeFinding p offset f).odometer = s.odometer := by
  unfold State.placeFinding
  simp only [odometer_handEntry, odometer_reportMissed, odometer_setPeer]
  split
  · exact odometer_testFace _ _ _
  · rfl

theorem odometer_takePeerFinding (s : State) (sender : Nat) (f : Finding) :
    (s.takePeerFinding sender f).odometer = s.odometer := by
  unfold State.takePeerFinding
  split
  · rfl
  · split
    · rfl
    · exact odometer_placeFinding _ _ _ _

theorem odometer_takeFindingFrame (h : FrameHead) (body : List Byte) (s : State) :
    (State.takeFindingFrame h body s).odometer = s.odometer := by
  unfold State.takeFindingFrame
  split
  · rw [odometer_takePeerFinding, odometer_hear]
  · rfl

theorem odometer_stepOffset (s : State) (v : Setup) (p : Peer) (offset : Int) :
    (s.stepOffset v p offset).odometer = s.odometer := by
  unfold State.stepOffset
  split <;> rfl

theorem odometer_stepNote (s : State) (sender : Nat) (offset : Int) (note : Option (Int × Int)) :
    (s.stepNote sender offset note).odometer = s.odometer := by
  unfold State.stepNote
  split
  · rfl
  · exact odometer_handEntry _ _

theorem odometer_stepCovering (s : State) (p : Peer) (covering : Bool) (clearTo : Int) :
    (s.stepCovering p covering clearTo).odometer = s.odometer := by
  unfold State.stepCovering
  split
  · exact odometer_handEntry _ _
  · exact odometer_closeGap _ _ _ _ _
  · rfl

theorem odometer_fiveSteps (s : State) (v : Setup) (p : Peer) (b : HorizonBody) :
    (s.fiveSteps v p b).odometer = s.odometer := by
  unfold State.fiveSteps
  dsimp only
  split <;> simp only [odometer_verdictDecision, odometer_recomputeHorizon, odometer_setPeer,
    odometer_stepCovering, odometer_reportMissed, odometer_stepNote, odometer_stepOffset]

theorem odometer_ensurePeer (s : State) (sender : Nat) :
    (s.ensurePeer sender).odometer = s.odometer := by
  unfold State.ensurePeer
  split
  · exact odometer_hear s sender
  · split <;> rfl

theorem odometer_takeHorizonFrame (h : FrameHead) (body : List Byte) (s : State) :
    (State.takeHorizonFrame h body s).odometer = s.odometer := by
  have he := odometer_ensurePeer s h.sender
  unfold State.takeHorizonFrame
  split
  · rfl
  · dsimp only
    split
    · split
      · exact (odometer_fiveSteps _ _ _ _).trans he
      · exact he
    · exact he

theorem odometer_takeVerdictFrame (h : FrameHead) (body : List Byte) (s : State) :
    (State.takeVerdictFrame h body s).odometer = s.odometer := by
  unfold State.takeVerdictFrame
  split
  · rw [odometer_hearVerdict, odometer_hear]
  · rfl

theorem odometer_takeAnnounce (s : State) (sender face : Nat) :
    (s.takeAnnounce sender face).odometer = s.odometer := by
  unfold State.takeAnnounce
  split
  · split
    · rfl
    · exact odometer_testFace s sender face
  · dsimp only
    split <;> simp only [odometer_liveChanged, odometer_setPeer, odometer_handLeavingGap,
      odometer_testFace]

theorem odometer_takeAnnounceFrame (h : FrameHead) (body : List Byte) (s : State) :
    (State.takeAnnounceFrame h body s).odometer = s.odometer := by
  unfold State.takeAnnounceFrame
  split
  · rfl
  · split
    · rw [odometer_takeAnnounce, odometer_hear]
    · exact odometer_hear s _

theorem odometer_takeStatusReqFrame (h : FrameHead) (body : List Byte) (s : State) :
    (State.takeStatusReqFrame h body s).odometer = s.odometer := by
  have hf := odometer_handFrame s (s.statusFrame h.sender)
  unfold State.takeStatusReqFrame
  split
  · rfl
  · dsimp only
    split <;> exact hf

/-! ### Timers of the horizon unit and of the mode controller -/

theorem odometer_takeSilence (s : State) (id : Nat) : (s.takeSilence id).odometer = s.odometer := by
  unfold State.takeSilence
  split
  · rfl
  · split
    · unfold State.silence
      dsimp only
      split <;> simp only [odometer_liveChanged, odometer_setPeer, odometer_handLeavingGap]
    · rfl

theorem odometer_takeHorizonTimer (s : State) : s.takeHorizonTimer.odometer = s.odometer := by
  unfold State.takeHorizonTimer
  split
  · split
    · exact odometer_handFrame _ _
    · rfl
  · rfl

theorem odometer_takeAnnounceTimer (s : State) : s.takeAnnounceTimer.odometer = s.odometer := by
  unfold State.takeAnnounceTimer
  split
  · rfl
  · split
    · dsimp only
      split
      · rfl
      · exact odometer_handFrame _ _
    · rfl

/-! ### Strand-present and the cut input -/

theorem odometer_takeFall (s : State) : s.takeFall.odometer = s.odometer := by
  unfold State.takeFall
  split
  · rfl
  · split <;> rfl

theorem odometer_strandEnd (s : State) (v : Setup) : (s.strandEnd v).odometer = s.odometer := by
  unfold State.strandEnd
  simp only [odometer_recompute, odometer_coveringTest, odometer_startAll, odometer_abortBuild,
    odometer_closeAll]
  rfl

theorem odometer_takeDropout (s : State) : s.takeDropout.odometer = s.odometer := by
  unfold State.takeDropout
  split
  · dsimp only
    split
    · rfl
    · split
      · exact odometer_strandEnd _ _
      · rfl
  · rfl

theorem odometer_takeCandidate (s : State) (v : Setup) (position : Int) :
    (s.takeCandidate v position).odometer = s.odometer := by
  unfold State.takeCandidate
  split
  · rfl
  · split
    · rfl
    · rw [odometer_takeCut, odometer_handFrame]
      rfl

theorem odometer_takeCutLevel (s : State) (high : Bool) :
    (s.takeCutLevel high).odometer = s.odometer := by
  unfold State.takeCutLevel
  dsimp only
  split
  · rfl
  · split
    · exact odometer_takeCandidate _ _ _
    · rfl

/-! ### The commands that leave the odometer alone -/

/-- The six commands that may move count, position, high-water or last line position. -/
def Instr.movesOdometer : Instr → Bool
  | .encoderTransition _ _ _ => true
  | .strandRise _ => true
  | .gateChange _ _ => true
  | .referenceReadout _ _ _ => true
  | .setupFrame _ _ => true
  | .resetEnd _ _ => true
  | _ => false

theorem event_cases {dt : Nat} {f : State → State} {s t : State} (h : event dt f s = .next t) :
    t = s.begin dt ∨ s.resetting = none ∧ t = f (s.begin dt) := by
  cases hr : s.resetting with
  | none =>
    rw [event_running hr] at h
    injection h with h
    exact .inr ⟨rfl, h.symm⟩
  | some c =>
    rw [event_resetting (by rw [hr]; rfl)] at h
    injection h with h
    exact .inl h.symm

theorem inputEvent_cases {dt : Nat} {set : Pins → Pins} {f : State → State} {s t : State}
    (h : inputEvent dt set f s = .next t) :
    t = { s.begin dt with pins := set s.pins }
      ∨ s.resetting = none ∧ t = f { s.begin dt with pins := set s.pins } := by
  cases hr : s.resetting with
  | none =>
    rw [inputEvent_running hr] at h
    injection h with h
    exact .inr ⟨rfl, h.symm⟩
  | some c =>
    rw [inputEvent_resetting (by rw [hr]; rfl)] at h
    injection h with h
    exact .inl h.symm

theorem odometer_event {f : State → State} (hf : ∀ s, (f s).odometer = s.odometer) {dt : Nat}
    {s t : State} (h : event dt f s = .next t) : t.odometer = s.odometer := by
  obtain rfl | ⟨-, rfl⟩ := event_cases h
  · rfl
  · exact hf _

theorem odometer_inputEvent {set : Pins → Pins} {f : State → State}
    (hf : ∀ s, (f s).odometer = s.odometer) {dt : Nat} {s t : State}
    (h : inputEvent dt set f s = .next t) : t.odometer = s.odometer := by
  obtain rfl | ⟨-, rfl⟩ := inputEvent_cases h
  · rfl
  · exact hf _

theorem exec_odometer {c : Instr} (hc : Instr.movesOdometer c = false) {s t : State}
    (h : exec c s = .next t) : t.odometer = s.odometer := by
  have frame : ∀ {cl f hand dt}, (∀ h body u, (hand h body u).odometer = u.odometer) →
      event dt (State.receive cl f hand) s = .next t → t.odometer = s.odometer :=
    fun hh => odometer_event (odometer_receive hh _ _)
  cases c with
  | encoderTransition dt a b => exact nomatch hc
  | strandRise dt => exact nomatch hc
  | gateChange dt high => exact nomatch hc
  | referenceReadout dt tag raw => exact nomatch hc
  | setupFrame dt f => exact nomatch hc
  | resetEnd dt p => exact nomatch hc
  | strandFall dt =>
    rw [exec_strandFall] at h
    obtain rfl | ⟨-, rfl⟩ := inputEvent_cases h
    · rfl
    · cases s.pins.strand with
      | true => exact odometer_takeFall _
      | false => rfl
  | dropoutTimerExpiry dt => exact odometer_event odometer_takeDropout h
  | cutInputEdge dt high =>
    rw [exec_cutInputEdge] at h
    exact odometer_inputEvent (odometer_takeCutLevel · high) h
  | lineArrival dt tag raw w => exact odometer_event (odometer_takeArrival · tag raw w) h
  | lineTimeout dt => exact odometer_event odometer_takeLineTimeout h
  | readoutTimeout dt => exact odometer_event odometer_takeReadoutTimeout h
  | probeTimerExpiry dt => exact odometer_event odometer_takeProbeTimer h
  | probeTimeout dt => exact odometer_event odometer_takeProbeTimeout h
  | probeArrival dt tag raw w => exact odometer_event (odometer_takeArrival · tag raw w) h
  | tick dt => exact odometer_event odometer_takeTick h
  | processedLine dt => exact odometer_event odometer_takeProcessed h
  | transmitTry dt => exact odometer_event odometer_tryToSend h
  | arbitrationLost dt => exact odometer_event odometer_loseArbitration h
  | collision dt => exact odometer_event odometer_collide h
  | frameSentWhole dt => exact odometer_event odometer_sentWhole h
  | cutFrame dt f => exact frame odometer_takeCutFrame h
  | findingFrame dt f => exact frame odometer_takeFindingFrame h
  | horizonFrame dt f => exact frame odometer_takeHorizonFrame h
  | verdictFrame dt f => exact frame odometer_takeVerdictFrame h
  | announceFrame dt f => exact frame odometer_takeAnnounceFrame h
  | statusFrame dt f => exact frame (hand := State.discardFrame) (fun _ _ _ => rfl) h
  | buildFrame dt f => exact frame (hand := State.takeBuildFrame) (fun _ _ _ => rfl) h
  | statusReqFrame dt f => exact frame odometer_takeStatusReqFrame h
  | silenceTimerExpiry dt p => exact odometer_event (odometer_takeSilence · p) h
  | horizonTimerExpiry dt => exact odometer_event odometer_takeHorizonTimer h
  | announceTimerExpiry dt => exact odometer_event odometer_takeAnnounceTimer h
  | powerOnReset dt =>
    injection h with h
    rw [← h]; rfl
  | pinReset dt =>
    injection h with h
    rw [← h]; rfl
  | newFrameBegins dt => exact odometer_event odometer_frameBegins h
  | idleGapAfterReset dt => exact odometer_event odometer_firstIdle h
  | frameOfUndefinedClass dt f => exact frame (hand := State.discardFrame) (fun _ _ _ => rfl) h

/-! ### The commands that move it -/

/-- The encoder pair moves the count, and the rest follows (R2 to R8). -/
theorem moveCount_rises {s : State} (hs : TravelInv s) (dir : Direction) (step : Int) :
    TravelRises s (s.moveCount dir step) := by
  obtain ⟨l, g, ln, sent, k, p, he, ⟨hle, hnone, hsome⟩, -⟩ := State.moveCount_effect hs dir step
  have hlo : -Config.countMax - 1 ≤ s.countAfter step := le_hold _
  have hhi : s.countAfter step ≤ Config.countMax := hold_le (by decide) _
  rw [he]
  refine ⟨?_, le_max_left _ _, hle⟩
  cases hv : s.ctl.setup with
  | none =>
    obtain ⟨-, -, -, hw, hl⟩ := (travelInv_none hv).mp hs
    have hp : s.positionAfter step = 0 := by rw [State.positionAfter, hv]; rfl
    have hmax : max s.travel.highWater (s.positionAfter step) = 0 := by rw [hw, hp]; rfl
    refine (travelInv_none ?_).mpr ⟨hlo, hhi, hp, hmax, (hnone hv).trans hl⟩
    exact hv
  | some v =>
    obtain ⟨-, -, -, hpitch, hw, -⟩ := (travelInv_some hv).mp hs
    obtain ⟨hd, hl⟩ := hsome v hv
    have hp : s.positionAfter step = positionOf (some v) (s.countAfter step) := by
      rw [State.positionAfter, hv]
    refine (travelInv_some ?_).mpr
      ⟨hlo, hhi, hp, hpitch, le_max_of_le_left hw, le_max_right _ _, hl, hd⟩
    exact hv

theorem takePair_rises {s : State} (hs : TravelInv s) (a b : Bool) :
    TravelRises s (s.takePair a b) := by
  have hp : (s.withPhase a b).odometer = s.odometer := rfl
  cases ht : turnOf s.travel.phase (a, b) with
  | still =>
    rw [State.takePair_of_still ht]
    exact hs.rises_of_odometer rfl
  | illegal =>
    rw [State.takePair_of_illegal ht]
    exact hs.rises_of_odometer rfl
  | forward =>
    rw [State.takePair_of_forward ht]
    exact (moveCount_rises (hs.of_odometer hp) _ _).of_odometer hp rfl
  | reverse =>
    rw [State.takePair_of_reverse ht]
    exact (moveCount_rises (hs.of_odometer hp) _ _).of_odometer hp rfl

/-- A last line position that moves up to a line position at or below the high-water. -/
theorem TravelInv.rises_of_lastLine {s t : State} {v : Setup} (hs : TravelInv s)
    (hv : s.ctl.setup = some v) {p : Int} (hlo : s.travel.lastLine ≤ p) (hhi : p ≤ s.travel.highWater)
    (e : t.odometer = { s with travel := { s.travel with
      lastLine := floorTo v.linePitch p } }.odometer) : TravelRises s t := by
  obtain ⟨hc, hc', hp, hpitch, hw, hpw, -, hd⟩ := (travelInv_some hv).mp hs
  have hinv : TravelInv { s with travel := { s.travel with lastLine := floorTo v.linePitch p } } :=
    (travelInv_some (s := { s with travel := { s.travel with lastLine := floorTo v.linePitch p } })
      hv).mpr ⟨hc, hc', hp, hpitch, hw, hpw, (floorTo_le hpitch p).trans hhi, dvd_floorTo _ _⟩
  have hrise : TravelRises s { s with travel := { s.travel with lastLine := floorTo v.linePitch p } } :=
    ⟨hinv, le_rfl, le_floorTo hpitch hd hlo⟩
  exact hrise.of_odometer rfl e

/-- Entry to INSPECTING takes the high-water, rounded down, as the last line position (R6). -/
theorem enterInspecting_rises {s : State} (hs : TravelInv s) {v : Setup} (hv : s.ctl.setup = some v) :
    TravelRises s (s.enterInspecting v) := by
  obtain ⟨-, -, -, -, -, -, hl, -⟩ := (travelInv_some hv).mp hs
  refine hs.rises_of_lastLine hv hl le_rfl ?_
  unfold State.enterInspecting
  simp only [odometer_recompute, odometer_coveringTest]
  rfl

theorem lineDue_rises {s : State} (hs : TravelInv s) {v : Setup} (hv : s.ctl.setup = some v) :
    TravelRises s (s.lineDue v) := by
  obtain ⟨g, l, m, k, d, e⟩ := s.lineDue_footprint v
  rw [e]
  by_cases h : s.isLineDue v = true
  · obtain ⟨-, -, -, hdue⟩ := (s.isLineDue_iff v).mp h
    rw [if_pos h]
    exact hs.rises_of_lastLine hv (by omega) hs.position_le rfl
  · rw [if_neg h]
    exact hs.rises_of_odometer rfl

theorem takeRise_rises {s : State} (hs : TravelInv s) : TravelRises s s.takeRise := by
  unfold State.takeRise
  split
  · exact hs.rises_of_odometer rfl
  · dsimp only
    split
    · exact hs.rises_of_odometer rfl
    · rename_i v hv
      split
      · exact hs.rises_after (fun h => enterInspecting_rises h hv) rfl
      · exact hs.rises_of_odometer rfl

theorem takeGate_rises {s : State} (hs : TravelInv s) (high : Bool) :
    TravelRises s (s.takeGate high) := by
  unfold State.takeGate
  dsimp only
  split
  · exact hs.rises_of_odometer rfl
  · split
    · exact hs.rises_of_odometer rfl
    · rename_i v hv
      split
      · have h := lineDue_rises (v := v)
          (s := { s with travel := { s.travel with gate := gateOf s.ctl.setup high } })
          (hs.of_odometer rfl) hv
        exact h.of_odometer rfl
          ((odometer_recomputeIfMoved _ s).trans (odometer_coveringTest _ v))
      · exact hs.rises_of_odometer rfl

/-- The all-segment reference may complete into INSPECTING (R193). -/
theorem referenceDone_rises {s : State} (hs : TravelInv s) {v : Setup} (hv : s.ctl.setup = some v) :
    TravelRises s (s.referenceDone v) := by
  unfold State.referenceDone
  split
  · exact enterInspecting_rises hs hv
  · exact hs.rises_of_odometer (odometer_recompute _)

theorem referenceFull_rises {s : State} (hs : TravelInv s) (scope : Scope) :
    TravelRises s (s.referenceFull scope) := by
  unfold State.referenceFull
  dsimp only
  split
  · exact hs.rises_of_odometer (odometer_dueTest _)
  · split
    · exact hs.rises_of_odometer rfl
    · rename_i v hv
      exact hs.rises_after (fun h => referenceDone_rises h hv) rfl

theorem takeReadoutTag_rises {s : State} (hs : TravelInv s) (tag : BitVec 8)
    (raw : List (BitVec 12)) : TravelRises s (s.takeReadoutTag tag raw) := by
  unfold State.takeReadoutTag
  split
  · unfold State.takeReadout
    dsimp only
    split
    · exact hs.rises_after (fun h => referenceFull_rises h _) rfl
    · exact hs.rises_of_odometer rfl
  · exact hs.rises_of_odometer (odometer_takeStale s)

/-- An accepted SETUP gives the count its position, and the high-water at least that (R4, R5). -/
theorem acceptSetup_odometer (s : State) (v : Setup) :
    (s.acceptSetup v).odometer = (some v, s.travel.count, positionOf (some v) s.travel.count,
      max s.travel.highWater (positionOf (some v) s.travel.count), s.travel.lastLine) := by
  unfold State.acceptSetup State.setupHorizon
  simp only [odometer_startAll, odometer_handFrame, odometer_openOwnGap]
  exact (odometer_recomputeHorizon _ v).trans rfl

theorem acceptSetup_rises {s : State} (hs : TravelInv s) (hn : s.ctl.setup = none) {v : Setup}
    (hpitch : 1 ≤ v.linePitch) : TravelRises s (s.acceptSetup v) := by
  obtain ⟨hc, hc', -, hw, hl⟩ := (travelInv_none hn).mp hs
  have e := acceptSetup_odometer s v
  simp only [State.odometer, Prod.mk.injEq] at e
  obtain ⟨hv, ec, ep, ew, el⟩ := e
  refine ⟨(travelInv_some hv).mpr ?_, by rw [ew]; exact le_max_left _ _, el.ge⟩
  rw [ec, ep, ew, el, hw, hl]
  exact ⟨hc, hc', rfl, hpitch, le_max_left _ _, le_max_right _ _, le_max_left _ _, dvd_zero _⟩

/-- A SETUP that passes the checks finds the node without one, and gives a pitch (R102, R191). -/
theorem setup_passed {s : State} (hs : CoveringInv s) {h : FrameHead} {body : List Byte}
    (e : s.qualify .setup = .passed h body) :
    s.ctl.setup = none ∧ 1 ≤ (parseSetup body).linePitch := by
  obtain ⟨hform, hstate⟩ := State.qualify_passed e
  obtain ⟨hset, -, -, -⟩ := hs
  constructor
  · have hm : s.ctl.mode = .unconfigured := by simpa [State.stateOk] using hstate
    rw [hm] at hset
    exact Option.not_isSome_iff_eq_none.mp (by rw [hset]; decide)
  · have hr : (parseSetup body).inRange = true := by
      simp only [formOk, FrameClass.bodyOk, Bool.and_eq_true] at hform
      exact hform.2.1
    simp only [Setup.inRange, within, Bool.and_eq_true, decide_eq_true_eq] at hr
    omega

theorem receiveSetup_rises {s : State} (hm : CoveringInv s) (hs : TravelInv s) (f : RxFrame) :
    TravelRises s (s.receive .setup f State.takeSetupFrame) := by
  obtain e | ⟨h, body, hq, e⟩ := odometer_receive_or_hand s .setup f State.takeSetupFrame
  · exact hs.rises_of_odometer e
  · obtain ⟨hn, hp⟩ := setup_passed (s := s.load f) hm hq
    rw [e]
    exact hs.rises_after (s' := (s.load f).endFrame) (fun h => acceptSetup_rises h hn hp) rfl

/-- A reset ends with count, position, high-water and last line position 0 (R17). -/
theorem endReset_travelInv (s : State) (p : Straps) (cause : ResetCause) :
    TravelInv (s.endReset p cause) := by
  have e : (s.endReset p cause).odometer = (none, 0, 0, 0, 0) := by
    unfold State.endReset
    dsimp only
    split
    · rfl
    · exact odometer_handFrame _ _
  simp only [State.odometer, Prod.mk.injEq] at e
  obtain ⟨hv, ec, ep, ew, el⟩ := e
  refine (travelInv_none hv).mpr ⟨?_, ?_, ep, ew, el⟩ <;> rw [ec] <;> decide

/-! ### One command, one step -/

theorem exec_referenceReadout (dt : Nat) (tag : BitVec 8) (raw : List (BitVec 12)) (s : State) :
    exec (.referenceReadout dt tag raw) s = event dt (State.takeReadoutTag · tag raw) s := rfl

/-- Does this command end a reset in progress? -/
def State.endedBy (s : State) (c : Instr) : Bool :=
  match c with
  | .resetEnd _ _ => s.resetting.isSome
  | _ => false

theorem endsReset_of_pending {s : State} {c : Instr} {rest : List Instr}
    (h : s.pending = c :: rest) : s.endsReset = s.endedBy c := by
  unfold State.endsReset
  rw [h]
  cases c <;> simp [State.endedBy]

theorem exec_rises {c : Instr} {s t : State} (hm : CoveringInv s) (hs : TravelInv s)
    (he : s.endedBy c = false) (h : exec c s = .next t) : TravelRises s t := by
  cases hc : Instr.movesOdometer c with
  | false => exact hs.rises_of_odometer (exec_odometer hc h)
  | true =>
    cases c with
    | encoderTransition dt a b =>
      rw [exec_encoderTransition] at h
      obtain rfl | ⟨-, rfl⟩ := inputEvent_cases h
      · exact hs.rises_of_odometer rfl
      · exact hs.rises_after (fun h => takePair_rises h a b) rfl
    | strandRise dt =>
      rw [exec_strandRise] at h
      obtain rfl | ⟨-, rfl⟩ := inputEvent_cases h
      · exact hs.rises_of_odometer rfl
      · cases hp : s.pins.strand with
        | true => exact hs.rises_of_odometer rfl
        | false => exact hs.rises_after takeRise_rises rfl
    | gateChange dt high =>
      rw [exec_gateChange] at h
      obtain rfl | ⟨-, rfl⟩ := inputEvent_cases h
      · exact hs.rises_of_odometer rfl
      · exact hs.rises_after (fun h => takeGate_rises h high) rfl
    | referenceReadout dt tag raw =>
      rw [exec_referenceReadout] at h
      obtain rfl | ⟨-, rfl⟩ := event_cases h
      · exact hs.rises_of_odometer rfl
      · exact hs.rises_after (fun h => takeReadoutTag_rises h tag raw) rfl
    | setupFrame dt f =>
      obtain rfl | ⟨-, rfl⟩ := event_cases h
      · exact hs.rises_of_odometer rfl
      · exact hs.rises_after (s' := s.begin dt) (fun h => receiveSetup_rises (s := s.begin dt) hm h f) rfl
    | resetEnd dt p =>
      have hr : s.resetting = none := by simpa [State.endedBy] using he
      unfold exec execResetEnd at h
      rw [hr] at h
      injection h with h
      exact hs.rises_of_odometer (by rw [← h]; rfl)
    | _ => exact nomatch hc

theorem exec_travelInv {c : Instr} {s t : State} (hm : CoveringInv s) (hs : TravelInv s)
    (h : exec c s = .next t) : TravelInv t := by
  cases he : s.endedBy c with
  | false => exact (exec_rises hm hs he h).inv
  | true =>
    cases c with
    | resetEnd dt p =>
      cases hr : s.resetting with
      | none => simp [State.endedBy, hr] at he
      | some cause =>
        unfold exec execResetEnd at h
        rw [hr] at h
        injection h with h
        exact h ▸ endReset_travelInv s p cause
    | _ => exact nomatch he

/-- Settles O57: an empty queue idles, and a command keeps the invariant and lowers neither value unless
it ends a reset. -/
theorem travelIsKept : Obligations.TravelIsKept := by
  intro s t hm hs h
  obtain ⟨hcov, -, -⟩ := hm
  unfold step at h
  split at h
  · injection h with h
    subst h
    exact ⟨hs, fun _ => ⟨le_rfl, le_rfl⟩⟩
  · rename_i c rest hq
    refine ⟨exec_travelInv (s := { s with pending := rest }) hcov (hs.of_odometer rfl) h, fun he => ?_⟩
    rw [endsReset_of_pending hq] at he
    obtain ⟨-, hw, hl⟩ :=
      exec_rises (s := { s with pending := rest }) hcov (hs.of_odometer rfl) he h
    exact ⟨hw, hl⟩

end Sys2Proof.Machine
end

section
/-! SUPPORT. Positions (O5), encoder transitions (O6) and the lines that forward transitions make due (O7). -/

namespace Sys2Proof.Machine

/-! ### The commands of the travel unit outside a reset -/

/-- The state an input command acts on: its time has passed and the levels are taken (R17; log 4). -/
def State.sees (s : State) (dt : Nat) (p : Pins) : State := { s.begin dt with pins := p }

section
variable {s : State} (hr : s.resetting = none)
include hr

theorem exec_encoderTransition_running (dt : Nat) (a b : Bool) :
    exec (.encoderTransition dt a b) s
      = .next ((s.sees dt { s.pins with encA := a, encB := b }).takePair a b) :=
  (exec_encoderTransition dt a b s).trans (inputEvent_running hr _ _ _)

theorem exec_strandRise_running (dt : Nat) :
    exec (.strandRise dt) s = .next ((if s.pins.strand then id else State.takeRise)
      (s.sees dt { s.pins with strand := true })) :=
  (exec_strandRise dt s).trans (inputEvent_running hr _ _ _)

theorem exec_strandFall_running (dt : Nat) :
    exec (.strandFall dt) s = .next ((if s.pins.strand then State.takeFall else id)
      (s.sees dt { s.pins with strand := false })) :=
  (exec_strandFall dt s).trans (inputEvent_running hr _ _ _)

theorem exec_dropoutTimerExpiry_running (dt : Nat) :
    exec (.dropoutTimerExpiry dt) s = .next (s.begin dt).takeDropout :=
  (exec_dropoutTimerExpiry dt s).trans (event_running hr _ _)

theorem exec_gateChange_running (dt : Nat) (high : Bool) :
    exec (.gateChange dt high) s = .next ((s.sees dt { s.pins with gate := high }).takeGate high) :=
  (exec_gateChange dt high s).trans (inputEvent_running hr _ _ _)

theorem exec_cutInputEdge_running (dt : Nat) (high : Bool) :
    exec (.cutInputEdge dt high) s
      = .next ((s.sees dt { s.pins with cut := high }).takeCutLevel high) :=
  (exec_cutInputEdge dt high s).trans (inputEvent_running hr _ _ _)

end

/-- Settles O5, by R4's formula and the division it rounds with. -/
theorem positionsAreRoundedDown : Obligations.PositionsAreRoundedDown := by
  refine ⟨fun v count q hv hlo hhi => ?_, fun _ => rfl, fun pitch p h => ?_⟩
  · rw [positionOf_eq_of_floor hv hlo hhi]
    norm_num [holdPosition, hold, Config.posMax]
  · exact ⟨dvd_floorTo pitch p, floorTo_le h p, lt_floorTo_add h p⟩

/-! ### Encoder transitions (R2, R3) -/

theorem countAfter_eq (s : State) (step : Int) :
    s.countAfter step = max (-(2 ^ 47)) (min (2 ^ 47 - 1) (s.travel.count + step)) := by
  norm_num [State.countAfter, hold, Config.countMax]

/-- The direction of a step of +1 or -1. -/
def directionOf (d : Int) : Direction := if d = 1 then .forward else .reverse

theorem takePair_of_legal {s : State} {a b : Bool} {d : Int}
    (h : d = 1 ∧ (s.travel.phase, (a, b)) ∈ forwardSteps
      ∨ d = -1 ∧ ((a, b), s.travel.phase) ∈ forwardSteps) :
    s.takePair a b = (s.withPhase a b).moveCount (directionOf d) d := by
  obtain ⟨rfl, h⟩ | ⟨rfl, h⟩ := h
  · exact State.takePair_of_forward ((mem_forwardSteps_iff _ _).mp h)
  · exact State.takePair_of_reverse ((mem_forwardSteps_swap_iff _ _).mp h)

/-- Settles O6, by the four turns a new pair can be. -/
theorem encoderStepsMoveTheCount : Obligations.EncoderStepsMoveTheCount := by
  constructor
  · intro dt a b d s hr hs hd
    rw [exec_encoderTransition_running hr,
      takePair_of_legal (s := s.sees dt { s.pins with encA := a, encB := b }) hd]
    generalize hu : (s.sees dt { s.pins with encA := a, encB := b }).withPhase a b = u
    have hinv : TravelInv u := hs.of_odometer (by rw [← hu]; rfl)
    obtain ⟨l, g, ln, sent, k, p, e, ⟨hle, -, -⟩, hdir⟩ :=
      State.moveCount_effect hinv (directionOf d) d
    rw [countAfter_eq] at e hdir
    subst hu
    exact ⟨_, rfl, by rw [e]; rfl, by rw [e]; rfl, by rw [e]; exact hle, by rw [e]; exact hdir⟩
  · intro dt a b s hr
    rw [exec_encoderTransition_running hr]
    constructor
    · intro hp
      rw [State.takePair_of_still]
      · rfl
      · exact (congrArg (turnOf · (a, b)) hp).trans (turnOf_self (a, b))
    · intro ha hb
      rw [State.takePair_of_illegal]
      · rfl
      · exact turnOf_of_both_differ ha hb

/-! ### Lines due (R6 to R8, R20) -/

section
variable {s : State} {v : Setup} (hv : s.ctl.setup = some v) (hm : s.ctl.mode = .inspecting)
  (hstrand : s.travel.strand = .asserted)

include hm hstrand in
theorem isLineDue_iff_of_opened (hg : s.travel.gate = .opened) :
    s.isLineDue v = true ↔ s.travel.lastLine + v.linePitch ≤ s.travel.position := by
  simp [State.isLineDue_iff, hm, hstrand, hg]

/-- With the gate OPEN the last line position does not follow the high-water. -/
theorem raiseHighWater_of_opened (hg : s.travel.gate = .opened) (v : Setup) :
    s.raiseHighWater v = { s with travel := { s.travel with
      highWater := max s.travel.highWater s.travel.position } } := by
  rw [State.raiseHighWater_eq]
  simp [State.lineFollows, hg]

include hv hm hstrand in
theorem positionChanged_requests (hg : s.travel.gate = .opened)
    (hdue : s.travel.lastLine + v.linePitch ≤ s.travel.position) (hl : s.head.line = none) :
    s.positionChanged = State.requestLine { s with travel := { s.travel with
      highWater := max s.travel.highWater s.travel.position
      lastLine := floorTo v.linePitch s.travel.position } } (floorTo v.linePitch s.travel.position) := by
  have h : (s.raiseHighWater v).isLineDue v = true := by
    rw [State.isLineDue_raiseHighWater]
    exact (isLineDue_iff_of_opened hm hstrand hg).mpr hdue
  rw [State.positionChanged_eq hv]
  rw [raiseHighWater_of_opened hg] at h ⊢
  exact State.lineDue_of_idle h hl

include hv hm hstrand in
theorem positionChanged_overruns (hg : s.travel.gate = .opened)
    (hdue : s.travel.lastLine + v.linePitch ≤ s.travel.position) (hl : s.head.line ≠ none) :
    s.positionChanged = (State.count { s with travel := { s.travel with
      highWater := max s.travel.highWater s.travel.position
      lastLine := floorTo v.linePitch s.travel.position } } .lineOverrun).noteLine v
        (floorTo v.linePitch s.travel.position) := by
  have h : (s.raiseHighWater v).isLineDue v = true := by
    rw [State.isLineDue_raiseHighWater]
    exact (isLineDue_iff_of_opened hm hstrand hg).mpr hdue
  rw [State.positionChanged_eq hv]
  rw [raiseHighWater_of_opened hg] at h ⊢
  exact State.lineDue_of_busy h hl

include hv hm hstrand in
theorem positionChanged_not_due (hg : s.travel.gate = .opened)
    (hdue : s.travel.position < s.travel.lastLine + v.linePitch) :
    s.positionChanged = { s with travel := { s.travel with
      highWater := max s.travel.highWater s.travel.position } } := by
  have h : ¬ (s.raiseHighWater v).isLineDue v = true := by
    rw [State.isLineDue_raiseHighWater, isLineDue_iff_of_opened hm hstrand hg]
    omega
  rw [State.positionChanged_eq hv, State.lineDue_of_not_due h, raiseHighWater_of_opened hg]

include hv hm in
theorem positionChanged_shut (hg : s.travel.gate = .shut) :
    s.positionChanged = { s with travel := { s.travel with
      highWater := max s.travel.highWater s.travel.position
      lastLine := if s.travel.highWater < s.travel.position
        then floorTo v.linePitch s.travel.position else s.travel.lastLine } } := by
  have h : ¬ (s.raiseHighWater v).isLineDue v = true := by
    simp [State.isLineDue_raiseHighWater, State.isLineDue_iff, hg]
  rw [State.positionChanged_eq hv, State.lineDue_of_not_due h, State.raiseHighWater_eq]
  simp [State.lineFollows, hm, hg]

end

/-- Phase, count and position after a forward pair below the end of the count, before anything follows
them (R2, R4). -/
def State.forwardTo (s : State) (a b : Bool) : State :=
  { s with travel := { s.travel with
      phase := (a, b), count := s.travel.count + 1
      position := positionOf s.ctl.setup (s.travel.count + 1) } }

theorem takePair_eq_forwardTo {s : State} {a b : Bool}
    (hp : (s.travel.phase, (a, b)) ∈ forwardSteps) (hlo : -Config.countMax - 1 ≤ s.travel.count)
    (hhi : s.travel.count < Config.countMax)
    (hne : positionOf s.ctl.setup (s.travel.count + 1) ≠ s.travel.position) :
    s.takePair a b = ((s.forwardTo a b).positionChanged.markMove .forward
      s.travel.position).recomputeIfMoved (s.withPhase a b) := by
  have hc : (s.withPhase a b).countAfter 1 = s.travel.count + 1 :=
    hold_of_mem (hlo.trans (Int.le_add_one le_rfl)) hhi
  have hpos : (s.withPhase a b).positionAfter 1 = positionOf s.ctl.setup (s.travel.count + 1) :=
    congrArg (positionOf s.ctl.setup) hc
  have hcne : (s.withPhase a b).countAfter 1 ≠ (s.withPhase a b).travel.count := by
    rw [hc]
    exact (Int.lt_succ s.travel.count).ne'
  rw [State.takePair_of_forward ((mem_forwardSteps_iff _ _).mp hp), State.moveCount_of_ne hcne,
    if_neg (by rw [hpos]; exact hne)]
  unfold State.turned
  rw [hc, hpos]
  rfl

/-- What follows the travel unit in a transition leaves the travel unit, the head port, the note list and
the overrun counter alone. -/
theorem afterMove_keeps (s old : State) (dir : Direction) (before : Int) {t : State}
    (h : t = (s.markMove dir before).recomputeIfMoved old) :
    t.travel = s.travel ∧ t.head = s.head ∧ t.hz.notes = s.hz.notes
      ∧ t.counter .lineOverrun = s.counter .lineOverrun := by
  obtain ⟨p, e, -, hc⟩ := s.afterMove_reported old dir before
  rw [← h] at e hc
  refine ⟨?_, ?_, ?_, hc⟩ <;> rw [e] <;> rfl

/-- Settles O7: what the changed position does at the gate, and that nothing after it undoes it. -/
theorem forwardTransitionsMakeLinesDue : Obligations.ForwardTransitionsMakeLinesDue := by
  intro dt a b s v p hr hs hv hp hc hpos hne hm hstrand
  obtain ⟨hlo, -⟩ := hs
  rw [← hv] at hpos
  subst hpos
  rw [exec_encoderTransition_running hr]
  set x := s.sees dt { s.pins with encA := a, encB := b }
  rw [takePair_eq_forwardTo (s := x) hp hlo hc hne]
  refine ⟨_, rfl, ?_⟩
  generalize ht : State.recomputeIfMoved _ _ = t
  obtain ⟨htravel, hhead, hnotes, hcount⟩ := afterMove_keeps _ _ _ _ ht.symm
  rw [htravel, hhead, hnotes, hcount]
  refine ⟨?_, fun hg hdue hl => ?_, fun hg hdue hl => ?_, fun hg hdue => ?_, fun hg => ?_⟩
  · obtain ⟨g, l, m, k, d, e⟩ := State.positionChanged_footprint (s := x.forwardTo a b) hv
    rw [e]
    rfl
  · rw [positionChanged_requests (s := x.forwardTo a b) hv hm hstrand hg hdue hl]
    exact ⟨rfl, rfl, rfl⟩
  · rw [positionChanged_overruns (s := x.forwardTo a b) hv hm hstrand hg hdue hl]
    exact ⟨rfl, rfl, rfl, State.count_counter_self _ _⟩
  · rw [positionChanged_not_due (s := x.forwardTo a b) hv hm hstrand hg hdue]
    exact ⟨rfl, rfl, rfl⟩
  · rw [positionChanged_shut (s := x.forwardTo a b) hv hm hg]
    exact ⟨rfl, rfl, rfl⟩

end Sys2Proof.Machine
end

section
/-! SUPPORT. The gate (O8), strand-present (O9), strand end (O10) and the cut input (O11). -/

namespace Sys2Proof.Machine

/-! ### Covering and the own GAP (R121, R197) -/

/-- In INSPECTING with strand-present ASSERTED the node covers where the gate is OPEN. -/
theorem State.isCovering_of_inspecting {s : State} (hm : s.ctl.mode = .inspecting)
    (hstrand : s.travel.strand = .asserted) : s.isCovering = (s.travel.gate == .opened) := by
  simp [State.isCovering, hm, hstrand]

theorem State.isCovering_of_not_inspecting {s : State} (hm : s.ctl.mode ≠ .inspecting) :
    s.isCovering = false := by
  simp [State.isCovering, hm]

/-- The own gap after the covering test: closed as covering begins, opened at the line frontier as it
ends (R121). -/
def State.gapAfterTest (s : State) (v : Setup) : Option Int :=
  if s.isCovering = s.ctl.covering then s.hz.ownGap
  else if s.isCovering = true then none else some (s.frontier v)

section
variable {s : State} (v : Setup)

theorem gapAfterTest_of_eq (h : s.isCovering = s.ctl.covering) : s.gapAfterTest v = s.hz.ownGap :=
  if_pos h

theorem gapAfterTest_of_begin (hi : s.isCovering = true) (hc : s.ctl.covering = false) :
    s.gapAfterTest v = none := by
  simp [State.gapAfterTest, hi, hc]

theorem gapAfterTest_of_end (hi : s.isCovering = false) (hc : s.ctl.covering = true) :
    s.gapAfterTest v = some (s.frontier v) := by
  simp [State.gapAfterTest, hi, hc]

end

/-- The covering test sets the covering and the own gap; all else is reports. -/
theorem State.coveringTest_reported (s : State) (v : Setup) :
    ∃ p, s.coveringTest v
      = { s with ctl := { s.ctl with covering := s.isCovering }
                 hz := { s.hz with ownGap := s.gapAfterTest v } }.reported p := by
  unfold State.coveringTest State.gapAfterTest
  by_cases h : s.isCovering = s.ctl.covering
  · rw [if_pos h, if_pos h, h]
    exact ⟨_, s.eq_reported s.record s.billet s.marker s.diag⟩
  · rw [if_neg h, if_neg h]
    dsimp only
    by_cases hc : s.isCovering = true
    · rw [if_pos hc, if_pos hc]
      obtain ⟨r, e⟩ := State.closeOwnGap_footprint
        { s with ctl := { s.ctl with covering := s.isCovering } } v
      exact ⟨_, e.trans (State.eq_reported { s with
        ctl := { s.ctl with covering := s.isCovering }, hz := { s.hz with ownGap := none } }
        r s.billet s.marker s.diag)⟩
    · rw [if_neg hc, if_neg hc]
      obtain ⟨r, b, m, d, e⟩ := State.openOwnGap_footprint
        { s with ctl := { s.ctl with covering := s.isCovering } } v
      exact ⟨_, e.trans (State.eq_reported { s with
        ctl := { s.ctl with covering := s.isCovering }, hz := { s.hz with ownGap := some (s.frontier v) } }
        r b m d)⟩

/-- The test for a due line leaves what covering hangs on. -/
theorem isCovering_lineDue (s : State) (v : Setup) : (s.lineDue v).isCovering = s.isCovering := by
  obtain ⟨g, l, m, k, d, e⟩ := s.lineDue_footprint v
  rw [e]
  rfl

theorem ctl_lineDue (s : State) (v : Setup) : (s.lineDue v).ctl = s.ctl := by
  obtain ⟨g, l, m, k, d, e⟩ := s.lineDue_footprint v
  rw [e]

/-! ### The spray gate (R12) -/

theorem gateOf_eq (setup : Option Setup) (high : Bool) :
    gateOf setup high = if high && setup.any Setup.gateUsed then .shut else .opened := by
  cases setup with
  | none => simp [gateOf]
  | some v => simp [gateOf, Bool.and_comm]

/-- The state with the gate state changed, before anything follows it. -/
def State.withGate (s : State) (g : GateState) : State :=
  { s with travel := { s.travel with gate := g } }

section
variable {s : State} {high : Bool}

theorem takeGate_of_eq (h : gateOf s.ctl.setup high = s.travel.gate) : s.takeGate high = s := if_pos h

theorem takeGate_of_not_inspecting (h : gateOf s.ctl.setup high ≠ s.travel.gate)
    (hm : s.ctl.mode ≠ .inspecting) :
    s.takeGate high = s.withGate (gateOf s.ctl.setup high) := by
  unfold State.takeGate
  dsimp only
  rw [if_neg h]
  split
  · rfl
  · exact if_neg hm

theorem takeGate_of_inspecting {v : Setup} (h : gateOf s.ctl.setup high ≠ s.travel.gate)
    (hv : s.ctl.setup = some v) (hm : s.ctl.mode = .inspecting) :
    s.takeGate high = (((s.withGate (gateOf s.ctl.setup high)).lineDue v).coveringTest v).recomputeIfMoved
      s := by
  unfold State.takeGate
  dsimp only
  rw [if_neg h]
  split
  · rename_i hn
    exact absurd (hv.symm.trans hn) (by simp)
  · rename_i w hw
    obtain rfl : v = w := Option.some.inj (hv.symm.trans hw)
    exact if_pos hm

end

/-- What a change of the gate state in INSPECTING writes: the last line position where a line falls due
(R7), the covering and the own gap (R121, R197). -/
theorem gateChanged_effect (s old : State) (v : Setup) :
    ∃ k p, ((s.lineDue v).coveringTest v).recomputeIfMoved old
      = { s with
          ctl := { s.ctl with covering := s.isCovering }
          travel := { s.travel with
            lastLine := if s.isLineDue v = true then floorTo v.linePitch s.travel.position
              else s.travel.lastLine }
          head := (s.lineDue v).head
          hz := { s.hz with notes := k, ownGap := (s.lineDue v).gapAfterTest v } }.reported p := by
  obtain ⟨g, l, m, k, d, e⟩ := s.lineDue_footprint v
  obtain ⟨p, e'⟩ := (s.lineDue v).coveringTest_reported v
  obtain ⟨p', e''⟩ := ((s.lineDue v).coveringTest v).recomputeIfMoved_reported old
  refine ⟨k, p', ?_⟩
  rw [e'', e']
  generalize (s.lineDue v).gapAfterTest v = gap
  rw [e]
  rfl

/-- Settles O8, by the three cases of a gate level and the two ways the gate state can change. -/
theorem gateChangesOpenAndShutCovering : Obligations.GateChangesOpenAndShutCovering := by
  intro dt high s g hr hc hg
  obtain ⟨-, hstrand, hcov, -⟩ := hc
  rw [← gateOf_eq] at hg
  subst hg
  rw [exec_gateChange_running hr]
  set x := s.sees dt { s.pins with gate := high }
  refine ⟨fun h => ?_, fun h hm => ?_, fun v hv h hm => ?_⟩
  · rw [takeGate_of_eq (s := x) h]
    rfl
  · rw [takeGate_of_not_inspecting (s := x) h hm]
    rfl
  · rw [takeGate_of_inspecting (s := x) h hv hm]
    set y := x.withGate (gateOf x.ctl.setup high)
    have hbefore : y.ctl.covering = (s.travel.gate == .opened) :=
      hcov.trans (State.isCovering_of_inspecting hm (hstrand hm))
    have hafter : y.isCovering = (gateOf s.ctl.setup high == .opened) :=
      State.isCovering_of_inspecting (s := y) hm (hstrand hm)
    obtain ⟨k, p, e⟩ := gateChanged_effect y x v
    refine ⟨_, rfl, ?_, fun hg => ?_, fun hg => ?_⟩
    · rw [e, hafter]
      rfl
    · have hwas : s.travel.gate = .opened := by
        cases hs : s.travel.gate with
        | opened => rfl
        | shut => exact absurd (hg.trans hs.symm) h
      have hnd : ¬ y.isLineDue v = true := by
        rw [State.isLineDue_iff]
        rintro ⟨-, -, ho, -⟩
        exact absurd (hg.symm.trans ho) (by decide)
      rw [hg] at hafter
      rw [hwas] at hbefore
      rw [e, State.lineDue_of_not_due hnd, if_neg hnd, gapAfterTest_of_end v hafter hbefore]
      exact ⟨rfl, rfl, rfl⟩
    · have hwas : s.travel.gate = .shut := by
        cases hs : s.travel.gate with
        | opened => exact absurd (hg.trans hs.symm) h
        | shut => rfl
      have hdue : y.isLineDue v = true
          ↔ s.travel.lastLine + v.linePitch ≤ s.travel.position :=
        isLineDue_iff_of_opened (s := y) hm (hstrand hm) hg
      rw [hg] at hafter
      rw [hwas] at hbefore
      rw [e, gapAfterTest_of_begin v ((isCovering_lineDue y v).trans hafter)
        ((congrArg Controller.covering (ctl_lineDue y v)).trans hbefore)]
      refine ⟨rfl, ?_⟩
      by_cases hd : s.travel.lastLine + v.linePitch ≤ s.travel.position
      · exact (if_pos (hdue.mpr hd)).trans (if_pos hd).symm
      · exact (if_neg (mt hdue.mp hd)).trans (if_neg hd).symm

/-! ### Strand-present (R10, R11) -/

/-- Strand-present ASSERTED, before anything follows it. -/
def State.withStrand (s : State) : State :=
  { s with travel := { s.travel with strand := .asserted } }

section
variable {s : State}

theorem takeRise_of_asserted (h : s.travel.strand = .asserted) :
    s.takeRise = { s with travel := { s.travel with dropout := none } } := by
  unfold State.takeRise
  rw [h]

theorem takeRise_of_not_waiting (h : s.travel.strand = .clear) (hm : s.ctl.mode ≠ .waiting) :
    s.takeRise = s.withStrand := by
  unfold State.takeRise
  rw [h]
  dsimp only
  split
  · rfl
  · exact if_neg hm

theorem takeRise_of_waiting {v : Setup} (h : s.travel.strand = .clear) (hm : s.ctl.mode = .waiting)
    (hv : s.ctl.setup = some v) : s.takeRise = s.withStrand.enterInspecting v := by
  unfold State.takeRise
  rw [h, hv]
  exact if_pos hm

theorem takeFall_of_clear (h : s.travel.strand = .clear) : s.takeFall = s := by
  unfold State.takeFall
  rw [h]

theorem takeFall_of_unconfigured (h : s.travel.strand = .asserted) (hv : s.ctl.setup = none) :
    s.takeFall = { s with travel := { s.travel with strand := .clear } } := by
  unfold State.takeFall
  rw [h, hv]

theorem takeFall_of_setup {v : Setup} (h : s.travel.strand = .asserted) (hv : s.ctl.setup = some v) :
    s.takeFall = { s with travel := { s.travel with
      dropout := some (s.nodeTime + v.dropoutTime) } } := by
  unfold State.takeFall
  rw [h, hv]

end

/-- What the entry to INSPECTING writes from a mode in which the node did not cover, with strand-present
ASSERTED (R6, R193, R197). -/
theorem enterInspecting_effect {s : State} (v : Setup) (hstrand : s.travel.strand = .asserted)
    (hc : s.ctl.covering = false) :
    ∃ p, s.enterInspecting v
      = { s with
          ctl := { s.ctl with mode := .inspecting, covering := s.travel.gate == GateState.opened }
          travel := { s.travel with lastLine := floorTo v.linePitch s.travel.highWater }
          hz := { s.hz with
            ownGap := if s.travel.gate = GateState.opened then none else s.hz.ownGap } }.reported p := by
  set y : State := { s.setMode .inspecting with travel := { s.travel with
    lastLine := floorTo v.linePitch s.travel.highWater } }
  have hy : y.isCovering = (s.travel.gate == .opened) :=
    State.isCovering_of_inspecting (s := y) rfl hstrand
  have hgap : y.gapAfterTest v = if s.travel.gate = .opened then none else s.hz.ownGap := by
    cases hg : s.travel.gate with
    | opened => exact gapAfterTest_of_begin v (by rw [hy, hg]; rfl) hc
    | shut => exact gapAfterTest_of_eq v (by rw [hy, hg]; exact hc.symm)
  obtain ⟨p, e⟩ := y.coveringTest_reported v
  obtain ⟨p', e'⟩ := (y.coveringTest v).recompute_reported
  refine ⟨p', ?_⟩
  rw [← hgap, ← hy]
  exact e'.trans (by rw [e]; rfl)

/-- A level that is no change leaves the levels as they were. -/
theorem sees_of_strand_eq {s : State} {level : Bool} (h : s.pins.strand = level) (dt : Nat) :
    s.sees dt { s.pins with strand := level } = s.begin dt := by
  subst h
  rfl

/-- Settles O9, by the level before the edge, strand-present and the mode. -/
theorem strandPresentRisesAndFalls : Obligations.StrandPresentRisesAndFalls := by
  intro dt s hr hc
  obtain ⟨-, -, hcov, -⟩ := hc
  set x := s.sees dt { s.pins with strand := true }
  set y := s.sees dt { s.pins with strand := false }
  have hrise : s.pins.strand = false → exec (.strandRise dt) s = .next x.takeRise := fun h => by
    rw [exec_strandRise_running hr, h]
    rfl
  have hfall : s.pins.strand = true → exec (.strandFall dt) s = .next y.takeFall := fun h => by
    rw [exec_strandFall_running hr, h]
    rfl
  refine ⟨fun h => ?_, fun h hs => ?_, fun h hs hm => ?_, fun v h hs hm hv => ?_, fun h => ?_,
    fun h hs => ?_, fun h hs hv => ?_, fun v h hs hv => ?_⟩
  · rw [exec_strandRise_running hr, sees_of_strand_eq h, h]
    rfl
  · rw [hrise h, takeRise_of_asserted (s := x) hs]
    rfl
  · rw [hrise h, takeRise_of_not_waiting (s := x) hs hm]
    rfl
  · have hnot : s.ctl.covering = false :=
      hcov.trans (State.isCovering_of_not_inspecting (by rw [hm]; decide))
    obtain ⟨p, e⟩ := enterInspecting_effect (s := x.withStrand) v rfl hnot
    rw [hrise h, takeRise_of_waiting (s := x) hs hm hv, e]
    exact ⟨_, rfl, rfl⟩
  · rw [exec_strandFall_running hr, sees_of_strand_eq h, h]
    rfl
  · rw [hfall h, takeFall_of_clear (s := y) hs]
    rfl
  · rw [hfall h, takeFall_of_unconfigured (s := y) hs hv]
    rfl
  · rw [hfall h, takeFall_of_setup (s := y) hs hv]
    rfl

/-! ### Strand end (R11, R195) -/

/-- A forced end of a build keeps the gain table (R55). -/
theorem abortBuild_effect (s : State) :
    ∃ k, s.abortBuild = { s with corr := k } ∧ k.gain = s.corr.gain
      ∧ k.build = if s.corr.build = .busy then .aborted else s.corr.build := by
  unfold State.abortBuild
  by_cases h : s.corr.build = .busy
  · rw [if_pos h, if_pos h]
    exact ⟨_, rfl, rfl, rfl⟩
  · rw [if_neg h, if_neg h]
    exact ⟨_, rfl, rfl, rfl⟩

/-- The stop of a reference takes no tag of its own (R24; log 35). -/
theorem stopReference_effect (s : State) :
    ∃ r m, s.stopReference = { s with head := { s.head with reference := r, sent := m } } := by
  unfold State.stopReference
  split
  · exact ⟨_, _, rfl⟩
  · exact ⟨_, _, rfl⟩

/-- A cycle cut short for the all-segment reference writes the segments and the dark table (R35). -/
theorem truncateForAll_effect (s : State) (i : Fin 8) (k : Nat) :
    ∃ r m c dark, s.truncateForAll i k
      = { s with head := { s.head with reference := r, sent := m }, sched := c
                 corr := { s.corr with dark := dark } } := by
  obtain ⟨r, m, e⟩ := stopReference_effect s
  unfold State.truncateForAll
  rw [e]
  dsimp only
  split <;> exact ⟨_, _, _, _, rfl⟩

/-- The all-segment reference is asked for under the next tag, with no readout taken, and is running
(R24, R35). -/
theorem startAll_effect (s : State) :
    ∃ m c dark, s.startAll
      = { s with
          head := { s.head with
            tag := s.head.tag + 1, sent := m
            reference := some { scope := .all, tag := s.head.tag, taken := 0
                                due := s.nodeTime + Config.headWait } }
          sched := c, corr := { s.corr with dark := dark } }
      ∧ c.allRunning = true := by
  unfold State.startAll
  dsimp only
  split
  · split
    · obtain ⟨r, m, c, dark, e⟩ := truncateForAll_effect s _ _
      rw [e]
      exact ⟨_, _, dark, rfl, rfl⟩
    · exact ⟨_, _, _, rfl, rfl⟩
  · exact ⟨_, _, _, rfl, rfl⟩

/-- Out of INSPECTING the covering test ends covering, with the own gap at the line frontier (R121,
R197). -/
theorem coveringEnds_effect {s : State} (v : Setup) (hm : s.ctl.mode ≠ .inspecting) :
    ∃ p, (s.coveringTest v).recompute
      = { s with
          ctl := { s.ctl with covering := false }
          hz := { s.hz with ownGap :=
            if s.ctl.covering = true then some (s.frontier v) else s.hz.ownGap } }.reported p := by
  have hi : s.isCovering = false := State.isCovering_of_not_inspecting hm
  have hgap : s.gapAfterTest v
      = if s.ctl.covering = true then some (s.frontier v) else s.hz.ownGap := by
    cases hc : s.ctl.covering with
    | true => exact gapAfterTest_of_end v hi hc
    | false => exact gapAfterTest_of_eq v (hi.trans hc.symm)
  obtain ⟨p, e⟩ := s.coveringTest_reported v
  obtain ⟨p', e'⟩ := (s.coveringTest v).recompute_reported
  refine ⟨p', ?_⟩
  rw [e', e, hi, hgap]
  rfl

/-- What strand end writes: mode and covering, line in flight, reference, trace table, build and own gap
(R23, R35, R55, R73, R121, R195, R197). -/
theorem strandEnd_effect (s : State) (v : Setup) :
    ∃ m c k i n gap p, s.strandEnd v
      = { s with
          ctl := { s.ctl with mode := .referencing, covering := false }
          head := { s.head with
            tag := s.head.tag + 1, line := none, sent := m
            reference := some { scope := .all, tag := s.head.tag, taken := 0
                                due := s.nodeTime + Config.headWait } }
          sched := c, corr := k
          tracer := { s.tracer with
            slots := List.replicate Config.traceSlots none, nextId := i, made := n
            lastClose := some { kind := .strandEnd, position := s.travel.lastLine } }
          hz := { s.hz with ownGap := gap } }.reported p
      ∧ c.allRunning = true ∧ k.gain = s.corr.gain
      ∧ k.build = (if s.corr.build = .busy then .aborted else s.corr.build)
      ∧ gap = if s.ctl.covering = true then some ((s.strandEnd v).frontier v) else s.hz.ownGap := by
  obtain ⟨i, n, p, e₁⟩ := (s.setMode .referencing).dropLine.closeAll_reported v .strandEnd
  set closed := (s.setMode .referencing).dropLine.closeAll v .strandEnd
  obtain ⟨k, e₂, hgain, hbuild⟩ := abortBuild_effect closed
  obtain ⟨m, c, dark, e₃, hall⟩ := startAll_effect closed.abortBuild
  have hmode : closed.abortBuild.startAll.ctl.mode = .referencing := by
    rw [e₃, e₂, e₁]
    rfl
  obtain ⟨p', e₄⟩ := coveringEnds_effect v (hmode.trans_ne (by decide))
  have e : s.strandEnd v = _ := e₄
  rw [e₃, e₂, e₁] at e
  rw [e₁] at hgain hbuild
  refine ⟨m, c, { k with dark := dark }, i, n, _, p', e, hall, hgain, hbuild, ?_⟩
  rw [e]
  rfl

theorem takeDropout_of_not_due {s : State} {due : Nat} (hd : s.travel.dropout = some due)
    (h : s.nodeTime < due ∨ s.pins.strand = true) : s.takeDropout = s := by
  unfold State.takeDropout
  refine if_neg ?_
  rintro ⟨hdue, hlow⟩
  simp only [hd, dueBy, decide_eq_true_eq] at hdue
  obtain h | h := h
  · omega
  · simp [h] at hlow

/-- Strand-present CLEAR and the timer stopped, before anything follows (R11). -/
def State.withoutStrand (s : State) : State :=
  { s with travel := { s.travel with strand := .clear, dropout := none } }

theorem takeDropout_of_due {s : State} {v : Setup} {due : Nat} (hv : s.ctl.setup = some v)
    (hd : s.travel.dropout = some due) (hdue : due ≤ s.nodeTime) (hlow : s.pins.strand = false) :
    s.takeDropout = if s.ctl.mode = .inspecting then s.withoutStrand.strandEnd v
      else s.withoutStrand := by
  have h : dueBy s.nodeTime s.travel.dropout = true ∧ s.pins.strand = false :=
    ⟨by simpa [hd, dueBy] using hdue, hlow⟩
  unfold State.takeDropout
  rw [if_pos h, hv]
  rfl

/-- Settles O10, by whether the timer is due under a low input, and the mode. -/
theorem dropoutEndsTheStrand : Obligations.DropoutEndsTheStrand := by
  intro dt due s v hr hd hv
  rw [exec_dropoutTimerExpiry_running hr]
  refine ⟨fun h => ?_, fun hdue hlow hm => ?_, fun hdue hlow hm => ?_⟩
  · rw [takeDropout_of_not_due (s := s.begin dt) hd h]
  · rw [takeDropout_of_due (s := s.begin dt) hv hd hdue hlow, State.begin_ctl, if_neg hm]
    rfl
  · rw [takeDropout_of_due (s := s.begin dt) hv hd hdue hlow, State.begin_ctl, if_pos hm]
    obtain ⟨m, c, k, i, n, gap, p, e, hall, hgain, hbuild, hgap⟩ :=
      strandEnd_effect (s.begin dt).withoutStrand v
    refine ⟨_, rfl, ?_, ?_, ?_, ?_⟩
    · rw [e, show s.corr.gain = k.gain from hgain.symm]
      rfl
    · rw [e]
      exact hall
    · rw [e]
      exact hbuild
    · refine Eq.trans ?_ hgap
      rw [e]
      rfl

/-! ### The cut input (R13 to R16) -/

theorem distance_lt_iff (a b : Int) (n : Nat) : distance a b < n ↔ |a - b| < n := by
  rw [Int.abs_eq_natAbs]
  exact Int.ofNat_lt.symm

theorem cutPosition_eq (s : State) (v : Setup) :
    s.cutPosition v = max (-(2 ^ 31)) (s.travel.position - v.torchOffset) := by
  norm_num [State.cutPosition, Config.posMax]

/-- The level of the cut input taken, before anything follows it (R13). -/
def State.withCutLevel (s : State) (high : Bool) : State :=
  { s with travel := { s.travel with cutLevel := high } }

theorem takeCutLevel_of_no_candidate {s : State} {high : Bool}
    (h : (high && !s.travel.cutLevel && s.ctl.setup.any Setup.cutReporting) = false) :
    s.takeCutLevel high = s.withCutLevel high := by
  unfold State.takeCutLevel
  dsimp only
  split
  · rfl
  · rename_i v hv
    rw [hv] at h
    exact if_neg (by rw [show (high && !s.travel.cutLevel && v.cutReporting) = false from h]; decide)

theorem takeCutLevel_of_candidate {s : State} {v : Setup} (hv : s.ctl.setup = some v)
    (hl : s.travel.cutLevel = false) (hc : v.cutReporting = true) :
    s.takeCutLevel true = (s.withCutLevel true).takeCandidate v (s.cutPosition v) := by
  unfold State.takeCutLevel
  rw [hv]
  exact if_pos (by rw [hl, hc]; rfl)

/-- Is a candidate a bounce of the last own cut? (R14) -/
theorem isBounce_iff (last : Option Int) (p : Int) (n : Nat) :
    (last.any fun l => distance p l < n) = true ↔ ∃ l ∈ last, |p - l| < n := by
  simp [Option.any_eq_true, distance_lt_iff]

theorem not_isBounce {last : Option Int} {p : Int} {n : Nat} (h : ∀ l ∈ last, (n : Int) ≤ |p - l|) :
    ¬ (last.any fun l => distance p l < n) = true := by
  rw [isBounce_iff]
  rintro ⟨l, hl, hlt⟩
  exact absurd hlt (not_lt.mpr (h l hl))

section
variable {s : State} {v : Setup} {p : Int}

theorem takeCandidate_of_bounce (h : ∃ l ∈ s.travel.lastCut, |p - l| < v.minCutSpacing) :
    s.takeCandidate v p = s.count .cutBounce := if_pos ((isBounce_iff _ _ _).mpr h)

theorem takeCandidate_of_end (h : ∀ l ∈ s.travel.lastCut, (v.minCutSpacing : Int) ≤ |p - l|)
    (hn : nextCutNumber v.firstCut s.travel.cutCounter = none) :
    s.takeCandidate v p = s.setFlag .cutConflict := by
  unfold State.takeCandidate
  rw [if_neg (not_isBounce h), hn]

theorem takeCandidate_of_number (h : ∀ l ∈ s.travel.lastCut, (v.minCutSpacing : Int) ≤ |p - l|)
    {k : Nat} (hn : nextCutNumber v.firstCut s.travel.cutCounter = some k) :
    s.takeCandidate v p = ({ s with travel := { s.travel with
        cutCounter := some k, lastCut := some p } }.handFrame
      { address := .strandGroup, target := s.ctl.strand - 1, test := false
        body := .cut k p }).takeCut v false k p := by
  unfold State.takeCandidate
  rw [if_neg (not_isBounce h), hn]
  rfl

end

/-- The numbers of own cuts: the first, each next one, and none after the largest (R15). -/
theorem nextCutNumber_of_max (first : Nat) : nextCutNumber first (some (2 ^ 31 - 1)) = none := rfl

theorem nextCutNumber_of_succ {first k : Nat} {counter : Option Nat}
    (h : counter = none ∧ k = first ∨ k ≤ 2 ^ 31 - 1 ∧ 1 ≤ k ∧ counter = some (k - 1)) :
    nextCutNumber first counter = some k := by
  obtain ⟨rfl, rfl⟩ | ⟨hmax, hmin, rfl⟩ := h
  · rfl
  · have hlt : k - 1 < Config.cutMax := by
      unfold Config.cutMax
      omega
    exact (if_pos hlt).trans (by rw [Nat.sub_add_cancel hmin])

/-- Settles O11, by the edge, the distance to the last own cut and the number that comes next. -/
theorem cutEdgesMakeOwnCuts : Obligations.CutEdgesMakeOwnCuts := by
  intro dt high s u hr hu
  rw [exec_cutInputEdge_running hr]
  set x := s.sees dt { s.pins with cut := high }
  replace hu : u = x.withCutLevel high := hu
  subst hu
  refine ⟨fun h => ?_, fun v p hv hh hl hc hp => ?_⟩
  · rw [takeCutLevel_of_no_candidate (s := x) h]
  · subst hh
    replace hp : x.cutPosition v = p := (cutPosition_eq x v).trans hp.symm
    rw [takeCutLevel_of_candidate (s := x) hv hl hc, hp]
    refine ⟨fun h => ?_, fun h => ⟨fun hmax => ?_, fun k hk => ?_⟩⟩
    · rw [takeCandidate_of_bounce (s := x.withCutLevel true) h]
    · rw [takeCandidate_of_end (s := x.withCutLevel true) h
        ((congrArg (nextCutNumber v.firstCut) hmax).trans (nextCutNumber_of_max _))]
    · rw [takeCandidate_of_number (s := x.withCutLevel true) h (nextCutNumber_of_succ hk)]
      rfl

end Sys2Proof.Machine
end

section
/-! SUPPORT. What a power-on reset leaves, and that it meets every invariant (O4). -/

namespace Sys2Proof.Machine

theorem reset_capacityInv : CapacityInv State.reset := by
  unfold CapacityInv
  decide +kernel

theorem reset_recordInv : RecordInv State.reset := by
  unfold RecordInv InOrder
  decide +kernel

theorem reset_sendInv : SendInv State.reset := by
  unfold SendInv
  decide +kernel

theorem reset_modesInv : ModesInv State.reset := by
  unfold ModesInv CoveringInv PortInv BlindInv
  decide +kernel

theorem reset_travelInv : TravelInv State.reset :=
  (travelInv_none rfl).mpr (by decide)

theorem reset_flag (f : DiagFlag) : State.reset.flag f = false := Vector.getElem_replicate _

theorem reset_counter (c : Counter) : State.reset.counter c = 0 := Vector.getElem_replicate _

theorem reset_counterInv : CounterInv State.reset := fun c => by
  rw [reset_counter]
  decide

theorem reset_gainInv : GainInv State.reset := fun g hg => by
  obtain rfl : g = 1024 := List.eq_of_mem_replicate hg
  decide

theorem reset_correctorInv : CorrectorInv State.reset :=
  ⟨List.length_replicate, List.length_replicate, List.length_replicate, List.length_replicate,
    fun _ h => (nomatch h), fun h => (nomatch h)⟩

theorem reset_billetInv : BilletInv State.reset := by
  unfold BilletInv
  decide +kernel

theorem reset_markerInv : MarkerInv State.reset := by
  unfold MarkerInv
  decide +kernel

theorem reset_traceInv : TraceInv State.reset :=
  ⟨fun _ h => (nomatch h), fun _ h => List.eq_of_mem_replicate h⟩

/-- Settles O4: the values are those of `State.reset`, and each invariant holds of them. -/
theorem resetLeavesTheNodeReady : Obligations.ResetLeavesTheNodeReady :=
  ⟨rfl, rfl, rfl, rfl, rfl, rfl, rfl, rfl, rfl, by decide, rfl, rfl, rfl, rfl, rfl, rfl, rfl, rfl, rfl, rfl,
    rfl, rfl, reset_flag, reset_counter, rfl, reset_capacityInv, reset_recordInv, le_rfl, reset_sendInv,
    reset_modesInv, reset_travelInv, reset_counterInv, reset_gainInv, reset_correctorInv,
    reset_billetInv, reset_markerInv, reset_traceInv⟩

end Sys2Proof.Machine
end

section
/-! SUPPORT. The commands of the head port, as the operations they run outside a reset, and what each of
these does by the state it finds: stale answers (O14), readouts (O17, O18), probes (O20, O21) and line
timeouts (O15). -/

namespace Sys2Proof.Machine

set_option Elab.async false

/-! ### The commands of the head port outside a reset -/

section
variable {s : State} (hr : s.resetting = none)
include hr

theorem exec_lineArrival_running (dt : Nat) (tag : BitVec 8) (raw : List (BitVec 12))
    (withheld : SegMask) :
    exec (.lineArrival dt tag raw withheld) s
      = .next ((s.begin dt).takeArrival tag raw withheld) :=
  event_running hr dt (State.takeArrival · tag raw withheld)

theorem exec_probeArrival_running (dt : Nat) (tag : BitVec 8) (raw : List (BitVec 12))
    (withheld : SegMask) :
    exec (.probeArrival dt tag raw withheld) s
      = .next ((s.begin dt).takeArrival tag raw withheld) :=
  event_running hr dt (State.takeArrival · tag raw withheld)

theorem exec_lineTimeout_running (dt : Nat) :
    exec (.lineTimeout dt) s = .next (s.begin dt).takeLineTimeout := event_running hr _ _

theorem exec_referenceReadout_running (dt : Nat) (tag : BitVec 8) (raw : List (BitVec 12)) :
    exec (.referenceReadout dt tag raw) s = .next ((s.begin dt).takeReadoutTag tag raw) :=
  event_running hr dt (State.takeReadoutTag · tag raw)

theorem exec_readoutTimeout_running (dt : Nat) :
    exec (.readoutTimeout dt) s = .next (s.begin dt).takeReadoutTimeout := event_running hr _ _

theorem exec_probeTimerExpiry_running (dt : Nat) :
    exec (.probeTimerExpiry dt) s = .next (s.begin dt).takeProbeTimer := event_running hr _ _

theorem exec_probeTimeout_running (dt : Nat) :
    exec (.probeTimeout dt) s = .next (s.begin dt).takeProbeTimeout := event_running hr _ _

theorem exec_tick_running (dt : Nat) :
    exec (.tick dt) s = .next (s.begin dt).takeTick := event_running hr _ _

/-- Either arrival command runs the same operation (log 24). -/
theorem exec_arrival_running {c : Instr} {dt : Nat} {tag : BitVec 8} {raw : List (BitVec 12)}
    {withheld : SegMask}
    (hc : c = .lineArrival dt tag raw withheld ∨ c = .probeArrival dt tag raw withheld) :
    exec c s = .next ((s.begin dt).takeArrival tag raw withheld) := by
  obtain rfl | rfl := hc
  · exact exec_lineArrival_running hr dt tag raw withheld
  · exact exec_probeArrival_running hr dt tag raw withheld

end

/-! ### Which answer an arrival or a readout is (R19) -/

section
variable {s : State} {tag : BitVec 8}

theorem takeArrival_of_line {l : LineInFlight} (hl : s.head.line = some l) (ht : l.tag = tag)
    (raw : List (BitVec 12)) (withheld : SegMask) :
    s.takeArrival tag raw withheld = s.takeLine l raw withheld := by
  simp [State.takeArrival, Option.filter, hl, ht]

theorem takeArrival_of_probe {p : Probe} (hl : s.head.line = none) (hp : s.head.probe = some p)
    (ht : p.tag = tag) (raw : List (BitVec 12)) (withheld : SegMask) :
    s.takeArrival tag raw withheld = s.recover := by
  simp [State.takeArrival, hl, hp, ht]

theorem takeArrival_of_stale (hl : ∀ l ∈ s.head.line, l.tag ≠ tag)
    (hp : ∀ p ∈ s.head.probe, p.tag ≠ tag) (raw : List (BitVec 12)) (withheld : SegMask) :
    s.takeArrival tag raw withheld = s.takeStale := by
  have hline : s.head.line.filter (fun l => l.tag == tag) = none :=
    Option.filter_eq_none_iff.mpr fun l h => by simpa using hl l h
  have hprobe : s.head.probe.any (fun p => p.tag == tag) = false := by
    simpa [Option.any_eq_false] using hp
  unfold State.takeArrival
  rw [hline, hprobe]
  rfl

theorem takeReadoutTag_of_current {r : Reference} (h : s.head.reference = some r) (ht : r.tag = tag)
    (raw : List (BitVec 12)) : s.takeReadoutTag tag raw = s.takeReadout r raw := by
  simp [State.takeReadoutTag, Option.filter, h, ht]

theorem takeReadoutTag_of_stale (h : ∀ r ∈ s.head.reference, r.tag ≠ tag) (raw : List (BitVec 12)) :
    s.takeReadoutTag tag raw = s.takeStale := by
  have hr : s.head.reference.filter (fun r => r.tag == tag) = none :=
    Option.filter_eq_none_iff.mpr fun r h' => by simpa using h r h'
  unfold State.takeReadoutTag
  rw [hr]

end

theorem takeStale_begin (s : State) (dt : Nat) :
    (s.begin dt).takeStale = if s.ctl.mode = .headFault then s.begin dt
      else { s.begin dt with head := { s.head with timeouts := 0, sent := [] } } := rfl

/-- Settles O14: neither arrival nor readout finds its exchange, so each is stale. -/
theorem staleAnswersOnlyClearTheTimeouts : Obligations.StaleAnswersOnlyClearTheTimeouts := by
  intro dt tag raw withheld s u hr hu
  rw [← takeStale_begin] at hu
  subst hu
  refine ⟨fun hl hp => ?_, fun h => ?_⟩
  · have hstale := takeArrival_of_stale (s := s.begin dt) hl hp raw withheld
    rw [exec_lineArrival_running hr, exec_probeArrival_running hr, hstale]
    exact ⟨rfl, rfl⟩
  · rw [exec_referenceReadout_running hr, takeReadoutTag_of_stale (s := s.begin dt) h]

/-! ### Readouts (R24, R33) -/

/-- Where there is a raw value for every pixel, a readout adds them pixel by pixel. -/
theorem addReadout_of_length {sums : List Nat} {raw : List (BitVec 12)}
    (h : raw.length = sums.length) :
    addReadout sums (raw.map BitVec.toNat) = List.zipWith (fun x y => x + y.toNat) sums raw := by
  induction sums generalizing raw with
  | nil => rfl
  | cons x sums ih =>
    cases raw with
    | nil => simp at h
    | cons y raw => simp [addReadout, ih (Nat.succ.inj h)]

/-- The state with a readout added to the accumulators, its timer restarted (R24, R33). -/
def State.withReadout (s : State) (r : Reference) (raw : List (BitVec 12)) : State :=
  { s with
    head := { s.head with
      timeouts := 0
      reference := some { r with taken := r.taken + 1, due := s.nodeTime + Config.headWait } }
    sched := { s.sched with accum := addReadout s.sched.accum (raw.map BitVec.toNat) } }

theorem takeReadout_of_lt {s : State} {r : Reference} (h : r.taken < 15) (raw : List (BitVec 12)) :
    s.takeReadout r raw = s.withReadout r raw :=
  if_neg (by unfold Config.fullReadouts; omega)

theorem takeReadout_of_full {s : State} {r : Reference} (h : r.taken = 15) (raw : List (BitVec 12)) :
    s.takeReadout r raw = (s.withReadout r raw).referenceFull r.scope :=
  if_pos (by unfold Config.fullReadouts; omega)

/-- Settles O17. -/
theorem readoutsAreAccumulated : Obligations.ReadoutsAreAccumulated := by
  intro dt tag raw s r hr href htag htaken hlen
  rw [exec_referenceReadout_running hr, takeReadoutTag_of_current (s := s.begin dt) href htag,
    takeReadout_of_lt htaken, ← addReadout_of_length hlen]
  rfl

/-! ### Probes (R27) -/

section
variable {s : State} {due : Nat} (hd : s.head.probeTimer = some due)
include hd

theorem takeProbeTimer_of_early (h : s.nodeTime < due) : s.takeProbeTimer = s := by
  unfold State.takeProbeTimer
  rw [hd]
  exact if_neg (not_le.mpr h)

theorem takeProbeTimer_of_due (h : due ≤ s.nodeTime) :
    s.takeProbeTimer = if s.head.probe.isNone
      then State.requestProbe { s with head := { s.head with
        probeTimer := some (due + Config.probePeriod) } }
      else { s with head := { s.head with probeTimer := some (due + Config.probePeriod) } } := by
  unfold State.takeProbeTimer
  rw [hd]
  exact if_pos h

end

theorem takeProbeTimeout_of_probe {s : State} {p : Probe} (hp : s.head.probe = some p) :
    s.takeProbeTimeout = if p.requestedAt + Config.headWait ≤ s.nodeTime
      then { s with head := { s.head with probe := none } } else s := by
  simp [State.takeProbeTimeout, hp, waitOver]

/-- Settles O20, by whether the timer is due and a probe is in flight. -/
theorem probesAreSentAndTimedOut : Obligations.ProbesAreSentAndTimedOut := by
  intro dt due s hr hd
  rw [exec_probeTimerExpiry_running hr]
  refine ⟨fun h => ?_, fun h hp => ?_, fun h hp => ?_, fun p hp => ?_⟩
  · rw [takeProbeTimer_of_early (s := s.begin dt) hd h]
  · rw [takeProbeTimer_of_due (s := s.begin dt) hd h, if_neg (by simpa [Option.isSome_iff_ne_none] using hp)]
    rfl
  · rw [takeProbeTimer_of_due (s := s.begin dt) hd h, if_pos (by simpa using hp)]
    rfl
  · rw [exec_probeTimeout_running hr, takeProbeTimeout_of_probe (s := s.begin dt) hp]
    rfl

/-! ### Recovery (R27, R35, R196) -/

/-- With no reference outstanding the all-segment reference is asked for at once (R35). -/
theorem startAll_of_none {s : State} (h : s.head.reference = none) :
    s.startAll = State.requestReference { s with sched := { s.sched with
      allRunning := true, accum := List.replicate Config.columns 0 } } .all := by
  unfold State.startAll
  rw [h]

/-- The node back in REFERENCING, its probe answered, before the all-segment reference is asked for. -/
def State.recovered (s : State) : State :=
  { s with
    ctl := { s.ctl with mode := .referencing }
    head := { s.head with probe := none, probeTimer := none, timeouts := 0 } }

theorem recover_eq (s : State) : s.recover = s.recovered.startAll.recompute := rfl

/-- Settles O21. -/
theorem aProbeAnswerRecoversTheNode : Obligations.AProbeAnswerRecoversTheNode := by
  intro dt tag raw withheld c s p hc hr hl href hp ht
  rw [exec_arrival_running hr hc.symm, takeArrival_of_probe (s := s.begin dt) hl hp ht, recover_eq,
    startAll_of_none (s := (s.begin dt).recovered) href]
  generalize hu : State.requestReference _ _ = u
  obtain ⟨q, e⟩ := u.recompute_reported
  subst hu
  exact ⟨_, rfl, by rw [e]; rfl⟩

/-! ### Line timeouts (R22) -/

theorem waitOver_iff (now requestedAt : Nat) :
    waitOver now requestedAt = true ↔ requestedAt + 20 ≤ now := decide_eq_true_iff

section
variable {s : State} {l : LineInFlight} {v : Setup} (hl : s.head.line = some l)
  (hv : s.ctl.setup = some v)
include hl hv

theorem takeLineTimeout_of_early (h : s.nodeTime < l.requestedAt + 20) : s.takeLineTimeout = s := by
  unfold State.takeLineTimeout
  rw [hl, hv]
  exact if_neg (by rw [waitOver_iff]; omega)

theorem takeLineTimeout_of_due (h : l.requestedAt + 20 ≤ s.nodeTime) :
    s.takeLineTimeout = s.timeOutLine v l := by
  unfold State.takeLineTimeout
  rw [hl, hv]
  exact if_pos ((waitOver_iff _ _).mpr h)

end

/-- The state with one timeout more, before the sixteenth makes a head fault (R22, R25). -/
def State.withTimeout (s : State) : State :=
  { s with head := { s.head with timeouts := s.head.timeouts + 1 } }

theorem countTimeout_of_lt {s : State} (h : s.head.timeouts < 15) (v : Setup) :
    s.countTimeout v = s.withTimeout := by
  have hm : min Config.faultTimeouts (s.head.timeouts + 1) = s.head.timeouts + 1 := by
    unfold Config.faultTimeouts
    omega
  unfold State.countTimeout
  rw [hm]
  exact if_neg fun hf => absurd hf.1 (by unfold Config.faultTimeouts; simp only; omega)

/-- Settles O15, by whether the line has waited 20 ms. -/
theorem lineTimeoutsLeaveANote : Obligations.LineTimeoutsLeaveANote := by
  intro dt s v l hr hv hl
  rw [exec_lineTimeout_running hr]
  refine ⟨fun h => ?_, fun h ht => ?_⟩
  · rw [takeLineTimeout_of_early (s := s.begin dt) hl hv h]
  · rw [takeLineTimeout_of_due (s := s.begin dt) hl hv h, State.timeOutLine]
    rw [countTimeout_of_lt (by exact ht)]
    generalize hu : State.withTimeout _ = u
    obtain ⟨q, e⟩ := u.recompute_reported
    have hcount : u.recompute.counter .lineTimeout = u.counter .lineTimeout :=
      u.recompute_reports.counter _ (by decide)
    subst hu
    refine ⟨_, rfl, by rw [e]; rfl, hcount.trans ?_⟩
    exact State.count_counter_self (s.begin dt).dropLine .lineTimeout

end Sys2Proof.Machine
end

section
/-! SUPPORT. The reference scheduler: the DUE test and the start of a cycle (O22), the sixteenth readout
(O18), and what a reference cut short leaves (O19). -/

namespace Sys2Proof.Machine

set_option Elab.async false

/-! ### The DUE test (R29 to R31) -/

/-- The segment at the pointer becomes DUE for a tick, before the start test (R30). -/
def State.fallsDue (s : State) : State :=
  { s with sched := { s.sched with
      segs := s.sched.segs.set s.sched.pointer
        { s.seg s.sched.pointer with state := .due, postponed := 0 }
      ticks := s.sched.ticks - 1 } }

theorem dueTest_of_ready {s : State} (ha : s.sched.allRunning = false) (hm : s.ctl.mode ≠ .headFault)
    (hc : ∀ g ∈ s.sched.segs, g.state = .current) (ht : 1 ≤ s.sched.ticks) :
    s.dueTest = s.fallsDue.startOnDue s.sched.pointer := by
  unfold State.dueTest
  refine if_neg ?_
  simpa [ha, hm, Nat.one_le_iff_ne_zero.mp ht] using hc

theorem dueTest_of_not_ready {s : State} (h : s.sched.allRunning = true ∨ s.ctl.mode = .headFault
    ∨ s.sched.ticks = 0 ∨ ∃ g ∈ s.sched.segs, g.state ≠ .current) : s.dueTest = s := by
  unfold State.dueTest
  refine if_pos ?_
  obtain h | h | h | ⟨g, hg, hne⟩ := h
  · simp [h]
  · simp [h]
  · simp [h]
  · have hany : s.sched.segs.any (fun g => g.state != .current) = true :=
      List.any_eq_true.mpr ⟨g, hg, by simpa using hne⟩
    simp [hany]

/-- A second record for a segment leaves of the first what it keeps of it. -/
theorem set_of_getD_set (segs : List Segment) (i : Nat) (g : Segment) (f : Segment → Segment) :
    (segs.set i g).set i (f ((segs.set i g).getD i {})) = segs.set i (f g) := by
  rw [List.set_set]
  by_cases h : i < segs.length
  · simp [h]
  · rw [List.set_eq_of_length_le (not_lt.mp h), List.set_eq_of_length_le (not_lt.mp h)]

/-- The cycle of the segment that has just become DUE (R31). -/
theorem startCycle_fallsDue (s : State) :
    s.fallsDue.startCycle s.sched.pointer = State.requestReference { s with sched := { s.sched with
      segs := s.sched.segs.set s.sched.pointer
        { s.seg s.sched.pointer with state := .blind, postponed := 0 }
      ticks := s.sched.ticks - 1
      accum := List.replicate Config.segColumns 0 } } (.segment s.sched.pointer) := by
  have hs := set_of_getD_set s.sched.segs s.sched.pointer
    { s.seg s.sched.pointer with state := .due, postponed := 0 }
    (fun g => { g with state := .blind, postponed := 0 })
  unfold State.startCycle
  rw [← hs]
  rfl

theorem touched_iff (s : State) (i : Fin 8) :
    s.touched i = true
      ↔ ∃ t, some t ∈ s.tracer.slots ∧ t.spanLo / 256 ≤ i.val ∧ i.val ≤ t.spanHi / 256 := by
  have ht : ∀ t : Trace, t.touches i = true
      ↔ t.spanLo / 256 ≤ i.val ∧ i.val ≤ t.spanHi / 256 := fun t =>
    Bool.and_eq_true_iff.trans (and_congr decide_eq_true_iff decide_eq_true_iff)
  unfold State.touched
  simp only [List.any_eq_true, Option.any_eq_true, ht]
  constructor
  · rintro ⟨_, hmem, t, rfl, h⟩
    exact ⟨t, hmem, h⟩
  · rintro ⟨t, hmem, h⟩
    exact ⟨_, hmem, t, rfl, h⟩

theorem startOnDue_starts {s : State} {i : Fin 8}
    (h : s.ctl.mode = .waiting ∨ s.ctl.mode = .inspecting ∧ s.touched i = false) :
    s.startOnDue i = s.startCycle i := by
  unfold State.startOnDue
  obtain h | ⟨h, ht⟩ := h
  · rw [h]
  · rw [h, ht]
    rfl

theorem startOnDue_waits {s : State} {i : Fin 8}
    (h : s.ctl.mode = .inspecting ∧ s.touched i = true) : s.startOnDue i = s := by
  obtain ⟨h, ht⟩ := h
  unfold State.startOnDue
  rw [h, ht]
  rfl

section
variable {s : State} {v : Setup} {due : Nat} (hv : s.ctl.setup = some v)
  (hd : s.sched.tickTimer = some due)
include hv hd

theorem takeTick_of_early (h : s.nodeTime < due) : s.takeTick = s := by
  unfold State.takeTick
  rw [hv, hd]
  exact if_neg (not_le.mpr h)

theorem takeTick_of_due (h : due ≤ s.nodeTime) :
    s.takeTick = State.dueTest { s with sched := { s.sched with
      tickTimer := some (due + tickPeriod v)
      ticks := min Config.tickLimit (s.sched.ticks + 1) } } := by
  unfold State.takeTick
  rw [hv, hd]
  exact if_pos h

end

/-- Settles O22: the tick by its due time, the DUE test by what lets it pass and the touch of a trace. -/
theorem ticksMakeSegmentsDue : Obligations.TicksMakeSegmentsDue := by
  refine ⟨fun dt due s v hr hv hd => ?_, fun s => ⟨dueTest_of_not_ready, ?_⟩⟩
  · rw [exec_tick_running hr]
    refine ⟨fun h => ?_, fun h => ?_⟩
    · rw [takeTick_of_early (s := s.begin dt) hv hd h]
    · rw [takeTick_of_due (s := s.begin dt) hv hd h]
      rfl
  · intro touching ha ht hc htouch
    have htouched : s.fallsDue.touched s.sched.pointer = touching :=
      Bool.eq_iff_iff.mpr ((touched_iff s s.sched.pointer).trans htouch.symm)
    refine ⟨fun hm => ?_, fun hm => ?_⟩
    · have hne : s.ctl.mode ≠ .headFault := by
        obtain h | ⟨h, -⟩ := hm <;> rw [h] <;> decide
      rw [dueTest_of_ready ha hne hc ht, startOnDue_starts (by rw [htouched]; exact hm),
        startCycle_fallsDue]
      rfl
    · have hne : s.ctl.mode ≠ .headFault := by rw [hm.1]; decide
      rw [dueTest_of_ready ha hne hc ht, startOnDue_waits (by rw [htouched]; exact hm)]
      rfl

/-! ### The sixteenth readout (R33, R34, R36, R193) -/

/-- The means of a whole reference, from the sums before its last readout. -/
theorem addReadout_means {sums : List Nat} {raw : List (BitVec 12)} (h : raw.length = sums.length) :
    (addReadout sums (raw.map BitVec.toNat)).map (· / Config.fullReadouts)
      = List.zipWith (fun x y => (x + y.toNat) / 16) sums raw := by
  rw [addReadout_of_length h, List.map_zipWith]
  rfl

theorem referenceDone_of_clear {s : State} (h : s.travel.strand = .clear) (v : Setup) :
    s.referenceDone v = (s.setMode .waiting).recompute := by
  unfold State.referenceDone
  rw [h]

theorem referenceDone_of_asserted {s : State} (h : s.travel.strand = .asserted) (v : Setup) :
    s.referenceDone v = s.enterInspecting v := by
  unfold State.referenceDone
  rw [h]

/-- What the entry to INSPECTING writes, whatever the mode before it. -/
theorem enterInspecting_writes {s : State} (v : Setup) (hstrand : s.travel.strand = .asserted) :
    ∃ gap p, s.enterInspecting v
      = { s with
          ctl := { s.ctl with mode := .inspecting, covering := s.travel.gate == GateState.opened }
          travel := { s.travel with lastLine := floorTo v.linePitch s.travel.highWater }
          hz := { s.hz with ownGap := gap } }.reported p := by
  set y : State := { s.setMode .inspecting with travel := { s.travel with
    lastLine := floorTo v.linePitch s.travel.highWater } }
  have hy : y.isCovering = (s.travel.gate == .opened) :=
    State.isCovering_of_inspecting (s := y) rfl hstrand
  obtain ⟨p, e⟩ := y.coveringTest_reported v
  obtain ⟨p', e'⟩ := (y.coveringTest v).recompute_reported
  refine ⟨y.gapAfterTest v, p', ?_⟩
  rw [← hy]
  exact e'.trans (by rw [e]; rfl)

/-- The state after an all-segment reference with these means, before the mode is chosen (R36). -/
def State.allRenewed (s : State) (means : List Nat) : State :=
  { s with
    head := { s.head with timeouts := 0, reference := none }
    corr := { s.corr with dark := means }
    sched := { s.sched with
      segs := s.sched.segs.map fun _ =>
        { state := .current, postponed := 0, lastReference := some s.nodeTime }
      pointer := 0, ticks := 0, allRunning := false, accum := [] } }

theorem referenceFull_all {s : State} {v : Setup} (hv : s.ctl.setup = some v) {r : Reference}
    (hs : r.scope = .all) {raw : List (BitVec 12)} (h : raw.length = s.sched.accum.length) :
    (s.withReadout r raw).referenceFull r.scope
      = (s.allRenewed (List.zipWith (fun x y => (x + y.toNat) / 16) s.sched.accum raw)).referenceDone
          v := by
  have hv' : (s.withReadout r raw).ctl.setup = some v := hv
  rw [← addReadout_means h, hs]
  unfold State.referenceFull
  rw [hv']
  rfl

/-- The state after the cycle of segment i with these means, before the DUE test (R34). -/
def State.cycleRenewed (s : State) (i : Fin 8) (means : List Nat) : State :=
  { s with
    head := { s.head with timeouts := 0, reference := none }
    corr := { s.corr with
      dark := s.corr.dark.take (256 * i) ++ means ++ s.corr.dark.drop (256 * (i + 1)) }
    sched := { s.sched with
      segs := s.sched.segs.set i
        { state := .current, postponed := 0, lastReference := some s.nodeTime }
      pointer := i + 1, accum := [] } }

theorem referenceFull_segment (s : State) {r : Reference} {i : Fin 8} (hs : r.scope = .segment i)
    {raw : List (BitVec 12)} (h : raw.length = s.sched.accum.length) :
    (s.withReadout r raw).referenceFull r.scope
      = (s.cycleRenewed i
          (List.zipWith (fun x y => (x + y.toNat) / 16) s.sched.accum raw)).dueTest := by
  rw [← addReadout_means h, hs]
  rfl

/-- Settles O18, by the scope and, after all segments, by strand-present. -/
theorem theSixteenthReadoutEndsTheReference : Obligations.TheSixteenthReadoutEndsTheReference := by
  intro dt tag raw s r means hr href htag htaken hlen hmeans
  subst hmeans
  rw [exec_referenceReadout_running hr, takeReadoutTag_of_current (s := s.begin dt) href htag,
    takeReadout_of_full htaken]
  refine ⟨fun i hi => ?_, fun v hall hv => ?_⟩
  · rw [referenceFull_segment (s.begin dt) hi hlen]
    rfl
  · rw [referenceFull_all (s := s.begin dt) hv hall hlen]
    generalize hm : List.zipWith _ _ raw = means
    rw [show List.zipWith (fun x y => (x + y.toNat) / 16) s.sched.accum raw = means from hm]
    set u := (s.begin dt).allRenewed means
    refine ⟨_, rfl, ?_⟩
    cases hstrand : s.travel.strand with
    | clear =>
      obtain ⟨p, e⟩ := (u.setMode .waiting).recompute_reported
      rw [referenceDone_of_clear (s := u) hstrand, e]
      exact ⟨rfl, fun _ => ⟨rfl, rfl⟩, fun h => nomatch h⟩
    | asserted =>
      obtain ⟨gap, p, e⟩ := enterInspecting_writes (s := u) v hstrand
      rw [referenceDone_of_asserted (s := u) hstrand, e]
      exact ⟨rfl, fun h => (nomatch h), fun _ => ⟨rfl, rfl⟩⟩

/-! ### A reference cut short (R24, R25, R37) -/

section
variable {s : State} {r : Reference} (h : s.head.reference = some r)
include h

theorem stopReference_of_some :
    s.stopReference = { s with head := { s.head with
      reference := none, sent := s.head.sent ++ [.referenceStop r.tag] } } := by
  unfold State.stopReference
  rw [h]
  rfl

/-- A cycle cut short by the head: its means are written from 8 readouts on, and the segment is CURRENT
(R37). -/
theorem truncateCycle_eq (i : Fin 8) (n : Nat) :
    s.truncateCycle i n = { s with
      head := { s.head with reference := none, sent := s.head.sent ++ [.referenceStop r.tag] }
      corr := { s.corr with
        dark := if 8 ≤ n then s.corr.dark.take (256 * i) ++ s.sched.accum.map (· / n)
            ++ s.corr.dark.drop (256 * (i + 1))
          else s.corr.dark }
      sched := { s.sched with
        segs := s.sched.segs.set i
          { state := .current, postponed := 0
            lastReference := if 8 ≤ n then some s.nodeTime else (s.seg i).lastReference }
        pointer := if 8 ≤ n then i + 1 else s.sched.pointer
        accum := [] } } := by
  unfold State.truncateCycle State.endReference
  rw [stopReference_of_some h]
  unfold Config.acceptReadouts
  by_cases hn : 8 ≤ n <;> simp only [hn, if_true, if_false] <;> rfl

/-- An all-segment reference cut short by the head: its means are written from 8 readouts on, and every
segment is CURRENT (R37). -/
theorem truncateAll_eq (n : Nat) :
    s.truncateAll n = { s with
      head := { s.head with reference := none, sent := s.head.sent ++ [.referenceStop r.tag] }
      corr := { s.corr with
        dark := if 8 ≤ n then s.sched.accum.map (· / n) else s.corr.dark }
      sched := { s.sched with
        segs := s.sched.segs.map fun g =>
          { state := .current, postponed := 0
            lastReference := if 8 ≤ n then some s.nodeTime else g.lastReference }
        allRunning := false, accum := [] } } := by
  unfold State.truncateAll State.endReference State.allCurrent
  rw [stopReference_of_some h]
  unfold Config.acceptReadouts
  by_cases hn : 8 ≤ n <;> simp only [hn, decide_true, decide_false] <;> rfl

end

section
variable {s : State} {r : Reference} {v : Setup} (h : s.head.reference = some r)
  (hv : s.ctl.setup = some v)
include h hv

theorem takeReadoutTimeout_of_early (hd : s.nodeTime < r.due) : s.takeReadoutTimeout = s := by
  unfold State.takeReadoutTimeout
  rw [h, hv]
  exact if_neg (not_le.mpr hd)

theorem takeReadoutTimeout_of_due (hd : r.due ≤ s.nodeTime) :
    s.takeReadoutTimeout = s.timeOutReadout v r := by
  unfold State.takeReadoutTimeout
  rw [h, hv]
  exact if_pos hd

end

theorem timeOutReadout_segment {s : State} {r : Reference} {i : Fin 8} (hs : r.scope = .segment i)
    (v : Setup) :
    s.timeOutReadout v r
      = if (((s.count .lineTimeout).truncateCycle i r.taken).countTimeout v).ctl.mode = .headFault
        then (((s.count .lineTimeout).truncateCycle i r.taken).countTimeout v).recompute
        else (((s.count .lineTimeout).truncateCycle i r.taken).countTimeout v).dueTest := by
  unfold State.timeOutReadout
  rw [hs]

theorem timeOutReadout_all {s : State} {r : Reference} (hs : r.scope = .all) (v : Setup) :
    s.timeOutReadout v r
      = if (((s.count .lineTimeout).renewRequest r.taken).countTimeout v).ctl.mode = .headFault
        then (((s.count .lineTimeout).renewRequest r.taken).countTimeout v).recompute
        else ((s.count .lineTimeout).renewRequest r.taken).countTimeout v := by
  unfold State.timeOutReadout
  rw [hs]

/-- Settles O19, by the due time and the scope; PortInv keeps the mode from being HEAD-FAULT. -/
theorem readoutTimeoutsCutTheCycle : Obligations.ReadoutTimeoutsCutTheCycle := by
  intro dt s v r hr hport hv href ht
  have hm : s.ctl.mode ≠ .headFault := by
    obtain ⟨-, -, -, hmode⟩ := hport
    exact hmode (by rw [href]; rfl)
  rw [exec_readoutTimeout_running hr]
  refine ⟨fun h => ?_, fun h hs => ?_, fun i h hs => ?_⟩
  · rw [takeReadoutTimeout_of_early (s := s.begin dt) href hv h]
  · rw [takeReadoutTimeout_of_due (s := s.begin dt) href hv h, timeOutReadout_all hs,
      countTimeout_of_lt (by exact ht), if_neg (by exact hm)]
    rfl
  · rw [takeReadoutTimeout_of_due (s := s.begin dt) href hv h, timeOutReadout_segment hs,
      truncateCycle_eq (s := (s.begin dt).count .lineTimeout) href,
      countTimeout_of_lt (by exact ht), if_neg (by exact hm)]
    rfl

end Sys2Proof.Machine
end

section
/-! SUPPORT. What an operation keeps: the limits of lists, tables and counts, the ranges of counters and
gains, and, where it is a report to other blocks alone, the flags and the node's stance. One lemma for each
shared operation; the invariants of a step (O52, O56, O58) and the head fault (O16) rest on them. -/

namespace Sys2Proof.Machine

set_option Elab.async false

/-! ### The stance of the node -/

/-- What the invariants of modes and corrector speak of: mode, setup and covering with what they hang on,
the exchanges with the head, the segments, the accumulators and the corrector. -/
structure Stance where
  resetting  : Option ResetCause
  mode       : Mode
  setup      : Option Setup
  covering   : Bool
  strand     : StrandPresent
  gate       : GateState
  ownGap     : Option Int
  line       : Option LineInFlight
  probe      : Option Probe
  probeTimer : Option Nat
  reference  : Option Reference
  segCount   : Nat
  segState   : Fin 8 → SegState
  allRunning : Bool
  accum      : List Nat
  corr       : Corrector

def State.stance (s : State) : Stance where
  resetting := s.resetting
  mode := s.ctl.mode
  setup := s.ctl.setup
  covering := s.ctl.covering
  strand := s.travel.strand
  gate := s.travel.gate
  ownGap := s.hz.ownGap
  line := s.head.line
  probe := s.head.probe
  probeTimer := s.head.probeTimer
  reference := s.head.reference
  segCount := s.sched.segs.length
  segState := fun i => (s.seg i).state
  allRunning := s.sched.allRunning
  accum := s.sched.accum
  corr := s.corr

/-! ### Limits, block by block -/

/-- The limits of the transceiver (R88, R92, R95). -/
def Transceiver.Within (x : Transceiver) : Prop :=
  x.queue.length ≤ 16 ∧ x.queue.countP TxFrame.isHorizon ≤ 1 ∧ x.collisions ≤ 2 ∧ x.buffer.length ≤ 68

/-- The limits of note list and peer table (R111, R123). -/
def HorizonUnit.Within (h : HorizonUnit) : Prop := h.notes.length ≤ 8 ∧ h.peers.length ≤ 8

/-- The limits of pending list and strand record (R134, R137). -/
def RecordUnit.Within (r : RecordUnit) : Prop := r.pending.length ≤ 64 ∧ r.entries.length ≤ 256

/-- The limits of mark queue and start history (R178, R182). -/
def MarkerUnit.Within (m : MarkerUnit) : Prop := m.queue.length ≤ 32 ∧ m.history.length ≤ 4

/-- The limits of the segments and the pending ticks (R29). -/
def Scheduler.Within (c : Scheduler) : Prop := c.segs.length = 8 ∧ c.ticks ≤ 8

/-- All limits, block by block. -/
structure Limits (s : State) : Prop where
  xcvr : s.xcvr.Within
  hz : s.hz.Within
  record : s.record.Within
  billets : s.billet.billets.length ≤ 16
  marker : s.marker.Within
  slots : s.tracer.slots.length = 32
  sched : s.sched.Within
  timeouts : s.head.timeouts ≤ 16

theorem capacityInv_iff (s : State) : CapacityInv s ↔ Limits s := by
  constructor
  · rintro ⟨hq, hh, hc, hb, hn, hp, hpe, hen, hbi, hm, hhi, hsl, hse, hti, hto⟩
    exact ⟨⟨hq, hh, hc, hb⟩, ⟨hn, hp⟩, ⟨hpe, hen⟩, hbi, ⟨hm, hhi⟩, hsl, ⟨hse, hti⟩, hto⟩
  · rintro ⟨⟨hq, hh, hc, hb⟩, ⟨hn, hp⟩, ⟨hpe, hen⟩, hbi, ⟨hm, hhi⟩, hsl, ⟨hse, hti⟩, hto⟩
    exact ⟨hq, hh, hc, hb, hn, hp, hpe, hen, hbi, hm, hhi, hsl, hse, hti, hto⟩

/-! ### The relations -/

/-- From `s` to `t` no limit is broken, and no counter and no gain leaves its range. -/
structure Keeps (s t : State) : Prop where
  limits : Limits s → Limits t
  counters : CounterInv s → CounterInv t
  gains : GainInv s → GainInv t

/-- And the stance is the same, with every flag that was set. -/
structure Reporting (s t : State) : Prop extends Keeps s t where
  stance : t.stance = s.stance
  flags : ∀ f, s.flag f = true → t.flag f = true

theorem Keeps.refl (s : State) : Keeps s s := ⟨id, id, id⟩

theorem Keeps.after {s t u : State} (h : Keeps t u) (k : Keeps s t) : Keeps s u :=
  ⟨h.limits ∘ k.limits, h.counters ∘ k.counters, h.gains ∘ k.gains⟩

theorem Reporting.refl (s : State) : Reporting s s := ⟨.refl s, rfl, fun _ => id⟩

theorem Reporting.after {s t u : State} (h : Reporting t u) (k : Reporting s t) : Reporting s u :=
  ⟨h.toKeeps.after k.toKeeps, h.stance.trans k.stance, fun f => h.flags f ∘ k.flags f⟩

/-- An update that leaves the diagnostics keeps what it keeps block by block. -/
theorem Keeps.of_blocks {s t : State}
    (xcvr : s.xcvr.Within → t.xcvr.Within := by exact id)
    (hz : s.hz.Within → t.hz.Within := by exact id)
    (record : s.record.Within → t.record.Within := by exact id)
    (billets : s.billet.billets.length ≤ 16 → t.billet.billets.length ≤ 16 := by exact id)
    (marker : s.marker.Within → t.marker.Within := by exact id)
    (slots : s.tracer.slots.length = 32 → t.tracer.slots.length = 32 := by exact id)
    (sched : s.sched.Within → t.sched.Within := by exact id)
    (timeouts : s.head.timeouts ≤ 16 → t.head.timeouts ≤ 16 := by exact id)
    (gains : GainInv s → GainInv t := by exact id)
    (diag : t.diag = s.diag := by rfl) : Keeps s t where
  limits h := ⟨xcvr h.xcvr, hz h.hz, record h.record, billets h.billets, marker h.marker, slots h.slots,
    sched h.sched, timeouts h.timeouts⟩
  counters h c := by
    have hc := h c
    unfold State.counter at hc ⊢
    rwa [diag]
  gains := gains

/-- A report that counts nothing. -/
theorem Reporting.of_blocks {s t : State}
    (xcvr : s.xcvr.Within → t.xcvr.Within := by exact id)
    (hz : s.hz.Within → t.hz.Within := by exact id)
    (record : s.record.Within → t.record.Within := by exact id)
    (billets : s.billet.billets.length ≤ 16 → t.billet.billets.length ≤ 16 := by exact id)
    (marker : s.marker.Within → t.marker.Within := by exact id)
    (slots : s.tracer.slots.length = 32 → t.tracer.slots.length = 32 := by exact id)
    (sched : s.sched.Within → t.sched.Within := by exact id)
    (timeouts : s.head.timeouts ≤ 16 → t.head.timeouts ≤ 16 := by exact id)
    (stance : t.stance = s.stance := by rfl)
    (diag : t.diag = s.diag := by rfl) : Reporting s t where
  toKeeps := .of_blocks xcvr hz record billets marker slots sched timeouts
    (fun h => by
      have hc : t.corr = s.corr := congrArg Stance.corr stance
      unfold GainInv
      rwa [hc])
    diag
  stance := stance
  flags f h := by
    unfold State.flag at h ⊢
    rwa [diag]

theorem countBy_counterInv {s : State} (h : CounterInv s) (c : Counter) (n : Nat) :
    CounterInv (s.countBy c n) := fun d => by
  by_cases e : c = d
  · subst e
    rw [State.countBy_counter_self]
    exact min_le_left _ _
  · rw [State.countBy_counter_other s n e]
    exact h d

theorem Reporting.countBy (s : State) (c : Counter) (n : Nat) : Reporting s (s.countBy c n) :=
  ⟨⟨fun h => { h with }, fun h => countBy_counterInv h c n, id⟩, rfl, fun _ => id⟩

theorem Reporting.count (s : State) (c : Counter) : Reporting s (s.count c) := .countBy s c 1

theorem setFlag_flag_of_set {s : State} {g : DiagFlag} (h : s.flag g = true) (f : DiagFlag) :
    (s.setFlag f).flag g = true := by
  by_cases e : f = g
  · rw [e, State.setFlag_flag_self]
  · rw [State.setFlag_flag_other s e, h]

theorem Reporting.setFlag (s : State) (f : DiagFlag) : Reporting s (s.setFlag f) :=
  ⟨⟨fun h => { h with }, id, id⟩, rfl, fun _ h => setFlag_flag_of_set h f⟩

/-! ### Transmit queue -/

theorem handFrame_reporting (s : State) (f : TxFrame) : Reporting s (s.handFrame f) := by
  unfold State.handFrame
  split
  · exact .refl s
  · rename_i hhor
    split
    · exact .count s _
    · rename_i hfull
      refine .of_blocks (xcvr := ?_)
      rintro ⟨hq, hh, hc, hb⟩
      refine ⟨?_, ?_, hc, hb⟩
      · have hroom : ¬ 16 ≤ s.xcvr.queue.length := fun h => hfull (decide_eq_true h)
        simp only [List.length_append, List.length_singleton]
        omega
      · by_cases hf : f.isHorizon = true
        · have hnone : s.xcvr.queue.countP TxFrame.isHorizon = 0 := by
            rw [List.countP_eq_zero]
            simpa [hf] using hhor
          simp [hnone, hf]
        · simpa [hf] using hh

/-! ### Marker unit -/

theorem length_insertMark (new : Mark) (q : List Mark) : (insertMark new q).length = q.length + 1 := by
  induction q with
  | nil => rfl
  | cons m rest ih =>
    unfold insertMark
    split
    · rfl
    · simp [ih]

theorem length_pushStart {history : List Nat} (h : history.length ≤ 4) (now : Nat) :
    (pushStart now history).length ≤ 4 := by
  unfold pushStart Config.historyLimit
  split
  · simp only [List.length_append, List.length_tail, List.length_singleton]
    omega
  · simp only [List.length_append, List.length_singleton]
    omega

/-- The start test on a queue no longer than the one it stands for. -/
theorem startFrom_reporting (v : Setup) (before : Option Int) (q : List Mark) {s : State}
    (hq : q.length ≤ s.marker.queue.length) : Reporting s (startFrom v before q s) := by
  induction q generalizing s with
  | nil => exact .of_blocks (marker := fun h => ⟨Nat.zero_le _, h.2⟩)
  | cons m rest ih =>
    have hrest : rest.length ≤ s.marker.queue.length := by
      simp only [List.length_cons] at hq
      omega
    unfold startFrom
    split
    · exact (ih (s := s.count .markLate) hrest).after (.count s _)
    · split
      · split
        · exact (ih (s := s.count .markSkipped) hrest).after (.count s _)
        · have hstart : Reporting s { s with marker := { s.marker with
              queue := rest, active := some m, output := .on
              history := pushStart s.nodeTime s.marker.history } } :=
            .of_blocks (marker := fun h => ⟨hrest.trans h.1, length_pushStart h.2 _⟩)
          dsimp only
          split
          · exact hstart
          · exact (Reporting.count _ _).after hstart
      · exact .of_blocks (marker := fun h => ⟨hq.trans h.1, h.2⟩)

theorem startTest_reporting (s : State) (before : Option Int) : Reporting s (s.startTest before) := by
  unfold State.startTest
  split
  · exact .refl s
  · split
    · exact .refl s
    · exact startFrom_reporting _ _ _ le_rfl

theorem extendNewest_within {m : MarkerUnit} (h : m.Within) (stop : Int) :
    (m.extendNewest stop).Within := by
  obtain ⟨hq, hh⟩ := h
  unfold MarkerUnit.extendNewest
  split
  · rename_i q hlast
    have hne : m.queue ≠ [] := by
      rintro e
      simp [e] at hlast
    have hpos : 0 < m.queue.length := List.length_pos_iff.mpr hne
    refine ⟨?_, hh⟩
    simp only [List.length_append, List.length_dropLast, List.length_singleton]
    omega
  · exact ⟨hq, hh⟩

theorem offerMark_reporting (s : State) (v : Setup) (new : Mark) : Reporting s (s.offerMark v new) := by
  unfold State.offerMark
  split
  · exact .of_blocks (marker := fun h => extendNewest_within h _)
  · split
    · exact .count s _
    · split
      · exact .count s _
      · rename_i hfull
        refine (startTest_reporting _ none).after (.of_blocks (marker := fun h => ⟨?_, h.2⟩))
        unfold Config.markLimit at hfull
        simp only [length_insertMark]
        omega

theorem markFinding_reporting (s : State) (v : Setup) (f : Finding) :
    Reporting s (s.markFinding v f) := by
  unfold State.markFinding
  split
  · exact .refl s
  · exact offerMark_reporting s v _

theorem follow_within {m : MarkerUnit} (h : m.Within) (dir : Direction) (p : Int) :
    (m.follow dir p).Within := by
  unfold MarkerUnit.follow
  split
  · exact h
  · cases dir with
    | reverse => exact h
    | forward =>
      dsimp only
      split
      · exact h
      · split <;> exact h

theorem markMove_reporting (s : State) (dir : Direction) (before : Int) :
    Reporting s (s.markMove dir before) :=
  (startTest_reporting _ _).after (.of_blocks (marker := fun h => follow_within h _ _))

theorem feedMarker_reporting (s : State) (f : Finding) : Reporting s (s.feedMarker f) := by
  unfold State.feedMarker
  split
  · exact .refl s
  · split
    · exact markFinding_reporting s _ f
    · exact .refl s

/-! ### Record unit -/

theorem makeRoom_reporting (s : State) : Reporting s s.makeRoom := by
  unfold State.makeRoom
  split
  · exact .refl s
  · rename_i oldest rest he
    split
    · exact .refl s
    · have hrest : s.record.Within → RecordUnit.Within { s.record with entries := rest } := by
        rintro ⟨hp, hn⟩
        rw [he, List.length_cons] at hn
        exact ⟨hp, by simp only; omega⟩
      have hroom : Reporting s { s with record := { s.record with entries := rest } } :=
        .of_blocks (record := hrest)
      have hremoved : ∀ u : State, Reporting u (u.reportRemoval oldest) := fun u =>
        .of_blocks (billets := fun h => by simpa [State.reportRemoval] using h)
      exact (hremoved _).after ((Reporting.count _ .recordEvict).after hroom)

/-- A record with room made has room for one entry. -/
theorem makeRoom_entries {s : State} (h : s.record.Within) : s.makeRoom.record.entries.length < 256 := by
  obtain ⟨-, hn⟩ := h
  unfold State.makeRoom
  split
  · rename_i he
    rw [he]
    decide
  · rename_i oldest rest he
    split
    · rename_i hlt
      exact hlt
    · rw [he, List.length_cons] at hn
      exact hn

theorem makeRoom_pending (s : State) : s.makeRoom.record.pending = s.record.pending := by
  unfold State.makeRoom
  split
  · rfl
  · split <;> rfl

/-- After room was made one entry may enter. -/
theorem enter_reporting (s : State) {es : List Entry}
    (he : es.length = s.makeRoom.record.entries.length + 1) :
    Reporting s { s.makeRoom with record := { s.makeRoom.record with entries := es } } where
  limits h := { (makeRoom_reporting s).limits h with
    record := ⟨((makeRoom_reporting s).limits h).record.1, by
      have := makeRoom_entries h.record
      simp only
      omega⟩ }
  counters := (makeRoom_reporting s).counters
  gains := (makeRoom_reporting s).gains
  stance := (makeRoom_reporting s).stance
  flags := (makeRoom_reporting s).flags

theorem enterNewest_reporting (s : State) (e : Entry) : Reporting s (s.enterNewest e) :=
  enter_reporting s (by simp)

theorem enterLate_reporting (s : State) (e : Entry) : Reporting s (s.enterLate e) :=
  enter_reporting s (length_insertEntry e _)

theorem evict_reporting (s : State) : Reporting s s.evict := by
  unfold State.evict
  split
  · exact .refl s
  · exact .of_blocks (record := fun h => ⟨h.1, (List.length_filter_le _ _).trans h.2⟩)

theorem length_mergeFirst {f : Finding} {tolerance : Nat} {es : List Entry} {r : List Entry × Finding}
    (h : mergeFirst f tolerance es = some r) : r.1.length = es.length := by
  induction es generalizing r with
  | nil => exact nomatch h
  | cons e rest ih =>
    have hskip : ∀ {e : Entry}, (mergeFirst f tolerance rest).map (fun (l, m) => (e :: l, m)) = some r →
        r.1.length = rest.length + 1 := fun h => by
      obtain ⟨q, hq, rfl⟩ := Option.map_eq_some_iff.mp h
      simp [ih hq]
    cases e with
    | finding c =>
      unfold mergeFirst at h
      split at h
      · injection h with h
        rw [← h]
        rfl
      · exact hskip h
    | loss o a b => exact hskip h
    | gap g o a b => exact hskip h

theorem commitEntry_reporting (v : Setup) (s : State) (e : Entry) :
    Reporting s (State.commitEntry v s e) := by
  cases e with
  | finding f =>
    unfold State.commitEntry
    dsimp only
    split
    · rename_i entries m hm
      have hlen : entries.length = s.record.entries.length := length_mergeFirst hm
      exact (feedMarker_reporting _ _).after
        (.of_blocks (record := fun h => ⟨h.1, by simp only [hlen]; exact h.2⟩))
    · exact (feedMarker_reporting _ _).after (enterNewest_reporting s _)
  | loss o a b => exact enterNewest_reporting s _
  | gap f o a b => exact enterNewest_reporting s _

theorem commitAll_reporting (v : Setup) (es : List Entry) (s : State) :
    Reporting s (es.foldl (State.commitEntry v) s) := by
  induction es generalizing s with
  | nil => exact .refl s
  | cons e rest ih => exact (ih _).after (commitEntry_reporting v s e)

theorem commitBelow_reporting (v : Setup) (h : Int) (s : State) : Reporting s (s.commitBelow v h) :=
  (evict_reporting _).after ((commitAll_reporting v _ _).after
    (.of_blocks (record := fun k => ⟨(List.length_filter_le _ _).trans k.1, k.2⟩)))

theorem toPending_reporting (s : State) (e : Entry) : Reporting s (s.toPending e) := by
  unfold State.toPending
  split
  · rename_i hlt
    unfold Config.pendingLimit at hlt
    exact .of_blocks (record := fun h => ⟨by simp only [length_insertEntry]; omega, h.2⟩)
  · exact (Reporting.count _ _).after (.of_blocks)

theorem takeLate_reporting (s : State) (e : Entry) : Reporting s (s.takeLate e) := by
  have hc : Reporting s (s.count .late) := .count s _
  cases e with
  | finding f =>
    exact (evict_reporting _).after ((feedMarker_reporting _ _).after
      ((enterLate_reporting _ _).after hc))
  | loss o a b => exact (evict_reporting _).after ((enterLate_reporting _ _).after hc)
  | gap f o a b => exact (evict_reporting _).after ((enterLate_reporting _ _).after hc)

theorem handEntry_reporting (s : State) (e : Entry) : Reporting s (s.handEntry e) := by
  unfold State.handEntry
  split
  · split
    · exact .count s _
    · exact .refl s
  · split
    · exact takeLate_reporting s e
    · exact toPending_reporting s e

theorem closeGap_reporting (s : State) (face subject : Nat) (start stop : Int) :
    Reporting s (s.closeGap face subject start stop) := by
  unfold State.closeGap
  split <;>
    exact .of_blocks (record := fun h => by simpa [RecordUnit.Within, length_closeFirst] using h)

/-! ### Billet unit -/

theorem length_decideBillets (v : Setup) (bs : List Billet) (s : State) :
    (decideBillets v bs s).1.length = bs.length := by
  induction bs generalizing s with
  | nil => rfl
  | cons b rest ih =>
    unfold decideBillets
    split
    · dsimp only
      split
      · rfl
      · simp [ih]
    · simp [ih]

theorem decideBillets_reporting (v : Setup) (bs : List Billet) (s : State) :
    Reporting s (decideBillets v bs s).2 := by
  induction bs generalizing s with
  | nil => exact .refl s
  | cons b rest ih =>
    unfold decideBillets
    split
    · rename_i tail _ _
      have h := handFrame_reporting s
        (toAll (s.verdictOf v b tail).test (.verdict (s.verdictOf v b tail)))
      dsimp only
      split
      · exact h
      · exact (ih _).after h
    · exact ih s

/-- The billet table is replaced by one no longer than the limit. -/
theorem withBillets_reporting {s t : State} (h : Reporting s t) {bs : List Billet}
    (hb : s.billet.billets.length ≤ 16 → bs.length ≤ 16) :
    Reporting s { t with billet := { t.billet with billets := bs } } where
  limits k := { h.limits k with billets := hb k.billets }
  counters := h.counters
  gains := h.gains
  stance := h.stance
  flags := h.flags

theorem verdictDecision_reporting (s : State) (v : Setup) : Reporting s (s.verdictDecision v) := by
  unfold State.verdictDecision
  split
  · exact withBillets_reporting (decideBillets_reporting v s.billet.billets s)
      fun h => by rwa [length_decideBillets]
  · exact .refl s

theorem billetRise_reporting (s : State) (v : Setup) : Reporting s (s.billetRise v) :=
  (verdictDecision_reporting _ v).after (withBillets_reporting (.refl s) fun h => by simpa using h)

theorem retire_reporting (s : State) : Reporting s s.retire := by
  unfold State.retire
  split
  · exact .refl s
  · rename_i oldest rest he
    have hrest : ∀ bs : List Billet, bs.length ≤ rest.length + 1 →
        Reporting s { s with billet := { s.billet with billets := bs } } := fun bs hbs =>
      withBillets_reporting (.refl s) fun h => by
        rw [he, List.length_cons] at h
        omega
    split
    · exact .refl s
    · split
      · exact (evict_reporting _).after (hrest rest (Nat.le_succ _))
      · split
        · refine hrest _ ?_
          simp only [List.length_cons]
          exact Nat.succ_le_succ (List.length_eraseP_le)
        · exact (evict_reporting _).after ((Reporting.count _ _).after (hrest rest (Nat.le_succ _)))

theorem evict_billet (s : State) : s.evict.billet = s.billet := by
  obtain ⟨r, h⟩ := s.evict_footprint
  rw [h]

/-- After a retirement the table has room for one billet. -/
theorem retire_billets {s : State} (h : s.billet.billets.length ≤ 16) :
    s.retire.billet.billets.length < 16 := by
  unfold State.retire
  split
  · rename_i he
    rw [he]
    decide
  · rename_i oldest rest he
    rw [he, List.length_cons] at h
    split
    · rename_i hlt
      exact hlt
    · split
      · rw [evict_billet]
        exact h
      · split
        · rename_i hany
          obtain ⟨b, hb, hrep⟩ := List.any_eq_true.mp hany
          have hmem : b ∈ rest := List.mem_of_mem_dropLast hb
          have hlen : (rest.eraseP fun b => b.state == .reported).length = rest.length - 1 :=
            List.length_eraseP_of_mem hmem hrep
          have hpos : 0 < rest.length := List.length_pos_of_mem hmem
          simp only [List.length_cons]
          omega
        · rw [evict_billet]
          exact h

theorem length_cutTable (number : Nat) (position horizon : Int) (floor : Option Int)
    (bs : List Billet) : (cutTable number position horizon floor bs).length = bs.length + 1 := by
  unfold cutTable
  split
  · rename_i hnone
    rw [List.getLast?_eq_none_iff.mp hnone]
    rfl
  · rename_i b hlast
    have hne : bs ≠ [] := by
      rintro rfl
      exact nomatch hlast
    have hpos : 0 < bs.length := List.length_pos_iff.mpr hne
    simp only [List.length_append, List.length_dropLast, List.length_cons, List.length_nil]
    omega

theorem newCut_reporting (s : State) (v : Setup) (received : Bool) (number : Nat) (position : Int) :
    Reporting s (s.newCut v received number position) := by
  have hcut : ∀ c : Option Nat, Reporting s { s.retire with
      billet := { s.retire.billet with
        billets := cutTable number position s.retire.hz.horizon s.retire.billet.floor
          s.retire.billet.billets }
      travel := { s.retire.travel with cutCounter := c } } := fun c =>
    (Reporting.of_blocks).after (withBillets_reporting (retire_reporting s) fun h => by
      have := retire_billets h
      rw [length_cutTable]
      omega)
  unfold State.newCut
  dsimp only
  split
  · exact (evict_reporting _).after (hcut _)
  · exact (verdictDecision_reporting _ v).after (hcut _)

theorem takeCut_reporting (s : State) (v : Setup) (received : Bool) (number : Nat) (position : Int) :
    Reporting s (s.takeCut v received number position) := by
  unfold State.takeCut
  split
  · split
    · exact .refl s
    · exact .setFlag s _
  · split
    · exact .refl s
    · split
      · exact .setFlag s _
      · exact newCut_reporting s v received number position

theorem hearVerdict_reporting (s : State) (heard : Verdict) : Reporting s (s.hearVerdict heard) := by
  unfold State.hearVerdict
  split
  · split
    · exact .refl s
    · split
      · split
        · exact .setFlag s _
        · exact .refl s
      · exact withBillets_reporting (.refl s) fun h => by simpa using h
  · exact .refl s

/-! ### Horizon unit -/

theorem recomputeHorizon_reporting (s : State) (v : Setup) : Reporting s (s.recomputeHorizon v) := by
  unfold State.recomputeHorizon
  split
  · exact (billetRise_reporting _ v).after ((commitBelow_reporting v _ _).after (.of_blocks))
  · exact .refl s

theorem horizonStep_reporting (s : State) (v : Setup) : Reporting s (s.horizonStep v) := by
  unfold State.horizonStep
  split
  · exact handFrame_reporting s _
  · exact .refl s

theorem recompute_reporting (s : State) : Reporting s s.recompute := by
  unfold State.recompute
  split
  · exact .refl s
  · rename_i v _
    have h : Reporting s ({ s with hz := { s.hz with ownClearTo := s.newClearTo v } }.horizonStep v) :=
      (horizonStep_reporting _ v).after (.of_blocks)
    dsimp only
    split
    · exact h
    · exact (recomputeHorizon_reporting _ v).after h

theorem recomputeIfMoved_reporting (s old : State) : Reporting s (s.recomputeIfMoved old) := by
  unfold State.recomputeIfMoved
  split
  · exact .refl s
  · exact recompute_reporting s

theorem length_mergeRange {notes : List Note} (h : notes.length ≤ 8) (pitch : Nat) (busy : Bool)
    (a b : Int) : (mergeRange pitch busy notes a b).length ≤ 8 := by
  unfold mergeRange
  split
  · simp
  · rename_i n hlast
    have hne : notes ≠ [] := by
      rintro rfl
      exact nomatch hlast
    have hpos : 0 < notes.length := List.length_pos_iff.mpr hne
    split
    · simp only [List.length_append, List.length_dropLast, List.length_singleton]
      omega
    · rename_i hroom
      have hlt : ¬ 8 ≤ notes.length := fun h =>
        hroom (Bool.or_eq_true_iff.mpr (.inr (decide_eq_true h)))
      simp only [List.length_append, List.length_singleton]
      omega

theorem noteLine_reporting (s : State) (v : Setup) (p : Int) : Reporting s (s.noteLine v p) :=
  .of_blocks (hz := fun h => ⟨length_mergeRange h.1 _ _ _ _, h.2⟩)

end Sys2Proof.Machine
end

section
/-! SUPPORT. What the operations of tracer, covering, scheduler, corrector and modes keep, and what the
commands of head port and travel unit do. -/

namespace Sys2Proof.Machine

set_option Elab.async false

/-! ### Tracer -/

theorem takeClosed_reporting (v : Setup) (s : State) (t : Trace) :
    Reporting s (State.takeClosed v s t) := by
  unfold State.takeClosed
  split
  · exact .refl s
  · dsimp only
    split
    · exact .count s _
    · exact (handFrame_reporting _ _).after ((handEntry_reporting _ _).after (.of_blocks))

theorem takeAllClosed_reporting (s : State) (v : Setup) (closed : List Trace) :
    Reporting s (s.takeAllClosed v closed) := by
  unfold State.takeAllClosed
  generalize closedOrder closed = ts
  induction ts generalizing s with
  | nil => exact .refl s
  | cons t rest ih => exact (ih _).after (takeClosed_reporting v s t)

theorem closeAll_reporting (s : State) (v : Setup) (kind : CloseKind) :
    Reporting s (s.closeAll v kind) :=
  (takeAllClosed_reporting _ v _).after (.of_blocks (slots := fun _ => rfl))

theorem length_foldl_set (is : List Nat) (slots : List (Option Trace)) :
    (is.foldl (fun acc j => acc.set j none) slots).length = slots.length := by
  induction is generalizing slots with
  | nil => rfl
  | cons i rest ih => rw [List.foldl_cons, ih, List.length_set]

theorem length_applyGroup (line : ProcessedLine) (slots : List (Option Trace)) (g : TraceGroup) :
    (applyGroup line slots g).length = slots.length := by
  unfold applyGroup
  split
  · rfl
  · simp only [List.length_set, length_foldl_set]

theorem length_applyGroups (line : ProcessedLine) (gs : List TraceGroup) (slots : List (Option Trace)) :
    (gs.foldl (applyGroup line) slots).length = slots.length := by
  induction gs generalizing slots with
  | nil => rfl
  | cons g rest ih => rw [List.foldl_cons, ih, length_applyGroup]

theorem length_openSlot {t : Trace} {slots next : List (Option Trace)}
    (h : openSlot t slots = some next) : next.length = slots.length := by
  induction slots generalizing next with
  | nil => exact nomatch h
  | cons slot rest ih =>
    cases slot with
    | none =>
      injection h with h
      rw [← h]
      rfl
    | some u =>
      obtain ⟨r, hr, rfl⟩ := Option.map_eq_some_iff.mp h
      rw [List.length_cons, List.length_cons, ih hr]

theorem length_openRuns (line : ProcessedLine) (runs : List Run) (slots : List (Option Trace)) :
    (openRuns line runs slots).1.length = slots.length := by
  induction runs generalizing slots with
  | nil => rfl
  | cons r rest ih =>
    unfold openRuns
    split
    · rename_i next hnext
      rw [ih, length_openSlot hnext]
    · exact ih slots

theorem length_ageSlots (blind : SegMask) (extended : List Nat) (before slots : List (Option Trace)) :
    (ageSlots blind extended before slots).length = slots.length := List.length_mapIdx

theorem dropRuns_reporting (s : State) (v : Setup) (line : ProcessedLine) (n : Nat) :
    Reporting s (s.dropRuns v line n) := by
  unfold State.dropRuns
  split
  · exact .refl s
  · exact (noteLine_reporting _ v _).after (.countBy s _ n)

/-- The slots replaced by as many. -/
theorem withSlots_reporting {s t : State} (h : Reporting s t) {slots : List (Option Trace)}
    (hl : s.tracer.slots.length = 32 → slots.length = 32) :
    Reporting s { t with tracer := { t.tracer with slots := slots } } where
  limits k := { h.limits k with slots := hl k.slots }
  counters := h.counters
  gains := h.gains
  stance := h.stance
  flags := h.flags

theorem traceLine_reporting (s : State) (v : Setup) (line : ProcessedLine) :
    Reporting s (s.traceLine v line) := by
  unfold State.traceLine
  dsimp only
  refine (takeAllClosed_reporting _ v _).after
    (withSlots_reporting (dropRuns_reporting s v line _) fun h => ?_)
  rw [List.length_map, length_ageSlots, length_openRuns, length_applyGroups, h]

theorem discardLine_reporting (s : State) (v : Setup) (line : ProcessedLine) :
    Reporting s (s.discardLine v line) := by
  unfold State.discardLine
  split
  · exact noteLine_reporting s v _
  · exact .refl s

/-! ### Covering -/

/-- The state with the covering and the own gap that the covering test leaves (R121, R197). -/
def State.covered (s : State) (v : Setup) : State :=
  { s with ctl := { s.ctl with covering := s.isCovering }
           hz := { s.hz with ownGap := s.gapAfterTest v } }

theorem coveringTest_reporting (s : State) (v : Setup) :
    Reporting (s.covered v) (s.coveringTest v) := by
  unfold State.covered State.coveringTest State.gapAfterTest
  by_cases h : s.isCovering = s.ctl.covering
  · rw [if_pos h, if_pos h, h]
    exact .refl s
  · rw [if_neg h, if_neg h]
    dsimp only
    by_cases hc : s.isCovering = true
    · rw [if_pos hc, if_pos hc]
      unfold State.closeOwnGap
      dsimp only
      split
      · rename_i hn
        have hn' : s.hz.ownGap = none := hn
        rw [← hn']
        exact .refl _
      · exact closeGap_reporting _ _ _ _ _
    · rw [if_neg hc, if_neg hc]
      exact handEntry_reporting _ _

theorem coveringTest_keeps (s : State) (v : Setup) : Keeps s (s.coveringTest v) :=
  (coveringTest_reporting s v).toKeeps.after .of_blocks

/-! ### Reference scheduler -/

theorem startCycle_keeps (s : State) (i : Fin 8) : Keeps s (s.startCycle i) :=
  .of_blocks (sched := fun h => ⟨(List.length_set).trans h.1, h.2⟩)

theorem startOnDue_keeps (s : State) (i : Fin 8) : Keeps s (s.startOnDue i) := by
  unfold State.startOnDue
  split
  · exact startCycle_keeps s i
  · split
    · exact .refl s
    · exact startCycle_keeps s i
  · exact .refl s

theorem dueTest_keeps (s : State) : Keeps s s.dueTest := by
  unfold State.dueTest
  split
  · exact .refl s
  · exact (startOnDue_keeps _ _).after (.of_blocks
      (sched := fun h => ⟨(List.length_set).trans h.1, (Nat.sub_le _ _).trans h.2⟩))

theorem lineBoundary_keeps (s : State) (v : Setup) : Keeps s (s.lineBoundary v) := by
  unfold State.lineBoundary
  split
  · exact .refl s
  · split
    · split
      · exact .of_blocks (sched := fun h => ⟨(List.length_set).trans h.1, h.2⟩)
      · exact startCycle_keeps s _
    · exact .refl s

theorem stopReference_keeps (s : State) : Keeps s s.stopReference := by
  unfold State.stopReference
  split
  · exact .refl s
  · exact .of_blocks

theorem setSeg_keeps (s : State) (i : Fin 8) (g : Segment) : Keeps s (s.setSeg i g) :=
  .of_blocks (sched := fun h => ⟨(List.length_set).trans h.1, h.2⟩)

theorem renewSeg_keeps (s : State) (i : Fin 8) : Keeps s (s.renewSeg i) :=
  .of_blocks (sched := fun h => ⟨(List.length_set).trans h.1, h.2⟩)

theorem endReference_keeps (s : State) (scope : Scope) (n : Nat) : Keeps s (s.endReference scope n) :=
  .of_blocks

theorem allCurrent_keeps (s : State) (accepted : Bool) : Keeps s (s.allCurrent accepted) :=
  .of_blocks (sched := fun h => ⟨(List.length_map _).trans h.1, h.2⟩)

theorem stopAndEnd_keeps (s : State) (scope : Scope) (n : Nat) :
    Keeps s (s.stopReference.endReference scope n) :=
  (endReference_keeps _ scope n).after (stopReference_keeps s)

theorem truncateForAll_keeps (s : State) (i : Fin 8) (n : Nat) : Keeps s (s.truncateForAll i n) := by
  unfold State.truncateForAll
  dsimp only
  split
  · exact (renewSeg_keeps _ i).after (stopAndEnd_keeps s _ n)
  · exact (setSeg_keeps _ i _).after (stopAndEnd_keeps s _ n)

theorem truncateCycle_keeps (s : State) (i : Fin 8) (n : Nat) : Keeps s (s.truncateCycle i n) := by
  unfold State.truncateCycle
  dsimp only
  split
  · exact (renewSeg_keeps _ i).after (stopAndEnd_keeps s _ n)
  · exact (setSeg_keeps _ i _).after (stopAndEnd_keeps s _ n)

theorem truncateAll_keeps (s : State) (n : Nat) : Keeps s (s.truncateAll n) :=
  (allCurrent_keeps _ _).after (stopAndEnd_keeps s .all n)

theorem truncateByFault_keeps (s : State) : Keeps s s.truncateByFault := by
  unfold State.truncateByFault
  split
  · exact .refl s
  · split
    · exact truncateCycle_keeps s _ _
    · exact truncateAll_keeps s _

theorem startAll_keeps (s : State) : Keeps s s.startAll := by
  have hask : ∀ u : State, Keeps u (State.requestReference { u with sched := { u.sched with
      allRunning := true, accum := List.replicate Config.columns 0 } } .all) := fun _ => .of_blocks
  unfold State.startAll
  dsimp only
  split
  · split
    · exact (hask _).after (truncateForAll_keeps s _ _)
    · exact hask s
  · exact hask s

/-! ### Corrector -/

theorem newGain_bounds {m : Int} {mean : Option Int} {g : Nat} (h : 256 ≤ g ∧ g ≤ 4095) :
    256 ≤ newGain m mean g ∧ newGain m mean g ≤ 4095 := by
  unfold newGain hold
  split
  · exact h
  · split
    · decide
    · omega

theorem install_gain {c : Corrector} (h : ∀ g ∈ c.gain, 256 ≤ g ∧ g ≤ 4095) (m : Int) :
    ∀ g ∈ (c.install m).gain, 256 ≤ g ∧ g ≤ 4095 := by
  unfold Corrector.install
  split
  · exact h
  · intro g hg
    obtain ⟨i, hi, rfl⟩ := List.mem_iff_getElem.mp hg
    rw [List.getElem_zipWith]
    exact newGain_bounds (h _ (List.getElem_mem _))

theorem completeBuild_keeps (s : State) : Keeps s s.completeBuild := by
  unfold State.completeBuild
  split
  · split
    · exact .of_blocks (gains := fun h => install_gain h _)
    · exact .of_blocks (gains := fun h => install_gain h _)
  · exact .refl s

theorem abortBuild_keeps (s : State) : Keeps s s.abortBuild := by
  unfold State.abortBuild
  split
  · exact .of_blocks
  · exact .refl s

theorem crowd_reporting (s : State) (v : Setup) (p : Int) (crowded : Bool) :
    Reporting s (s.crowd v p crowded) := by
  unfold State.crowd
  split
  · exact (noteLine_reporting _ v p).after (.count s _)
  · exact .refl s

theorem correctLine_keeps (s : State) (v : Setup) (line : LineInFlight) (raw : List (BitVec 12))
    (withheld : SegMask) : Keeps s (s.correctLine v line raw withheld) := by
  have hline : ∀ (u : State) (a : List ProcessedLine) (blind : SegMask) (values : List Nat)
      (runs : List Run), Keeps u { u with
        corr := if u.corr.build = .busy ∧ runs = [] then u.corr.accumulate blind values else u.corr
        tracer := { u.tracer with awaiting := a } } := fun u a blind values runs =>
    .of_blocks (gains := fun h => by
      unfold GainInv
      dsimp only
      split <;> exact h)
  exact (completeBuild_keeps _).after ((hline _ _ _ _ _).after (crowd_reporting s v _ _).toKeeps)

/-! ### Modes -/

theorem abandonNoted_keeps (s : State) (v : Setup) : Keeps s (s.abandonNoted v) := by
  unfold State.abandonNoted
  split
  · exact .refl s
  · exact (noteLine_reporting _ v _).toKeeps.after .of_blocks

theorem enterInspecting_keeps (s : State) (v : Setup) : Keeps s (s.enterInspecting v) :=
  (recompute_reporting _).toKeeps.after ((coveringTest_keeps _ v).after .of_blocks)

theorem referenceDone_keeps (s : State) (v : Setup) : Keeps s (s.referenceDone v) := by
  unfold State.referenceDone
  split
  · exact enterInspecting_keeps s v
  · exact (recompute_reporting _).toKeeps.after .of_blocks

theorem strandEnd_keeps (s : State) (v : Setup) : Keeps s (s.strandEnd v) :=
  (recompute_reporting _).toKeeps.after <| (coveringTest_keeps _ v).after <| (startAll_keeps _).after <|
    (abortBuild_keeps _).after <| (closeAll_reporting _ v _).toKeeps.after .of_blocks

theorem enterHeadFault_keeps (s : State) (v : Setup) : Keeps s (s.enterHeadFault v) := by
  have hcut : Keeps s (((s.setFlag .headFault).setMode .headFault).abandonNoted v).truncateByFault :=
    (truncateByFault_keeps _).after <| (abandonNoted_keeps _ v).after <|
      (Keeps.of_blocks (t := (s.setFlag .headFault).setMode .headFault)).after
        (Reporting.setFlag s _).toKeeps
  exact (coveringTest_keeps _ v).after <| (abortBuild_keeps _).after <|
    (closeAll_reporting _ v _).toKeeps.after <| (Keeps.of_blocks).after hcut

theorem countTimeout_keeps (s : State) (v : Setup) : Keeps s (s.countTimeout v) := by
  have hcount : Keeps s { s with head := { s.head with
      timeouts := min Config.faultTimeouts (s.head.timeouts + 1) } } :=
    .of_blocks (timeouts := fun _ => min_le_left _ _)
  unfold State.countTimeout
  dsimp only
  split
  · exact (enterHeadFault_keeps _ v).after hcount
  · exact hcount

theorem recover_keeps (s : State) : Keeps s s.recover :=
  (recompute_reporting _).toKeeps.after <| (startAll_keeps _).after <|
    .of_blocks (timeouts := fun _ => Nat.zero_le _)

/-! ### Commands of the head port -/

theorem takeStale_keeps (s : State) : Keeps s s.takeStale := by
  unfold State.takeStale
  split
  · exact .refl s
  · exact .of_blocks (timeouts := fun _ => Nat.zero_le _)

theorem takeLine_keeps (s : State) (line : LineInFlight) (raw : List (BitVec 12))
    (withheld : SegMask) : Keeps s (s.takeLine line raw withheld) := by
  have hdrop : Keeps s s.dropLine.clearTimeouts := .of_blocks (timeouts := fun _ => Nat.zero_le _)
  unfold State.takeLine
  dsimp only
  split
  · exact hdrop
  · split
    · exact (recompute_reporting _).toKeeps.after ((correctLine_keeps _ _ line raw withheld).after hdrop)
    · exact (recompute_reporting _).toKeeps.after hdrop

theorem takeArrival_keeps (s : State) (tag : BitVec 8) (raw : List (BitVec 12))
    (withheld : SegMask) : Keeps s (s.takeArrival tag raw withheld) := by
  unfold State.takeArrival
  split
  · exact takeLine_keeps s _ raw withheld
  · split
    · exact recover_keeps s
    · exact takeStale_keeps s

theorem timeOutLine_keeps (s : State) (v : Setup) (line : LineInFlight) :
    Keeps s (s.timeOutLine v line) :=
  (recompute_reporting _).toKeeps.after <| (countTimeout_keeps _ v).after <|
    (noteLine_reporting _ v _).toKeeps.after <| (Reporting.count _ _).toKeeps.after .of_blocks

theorem takeLineTimeout_keeps (s : State) : Keeps s s.takeLineTimeout := by
  unfold State.takeLineTimeout
  split
  · split
    · exact timeOutLine_keeps s _ _
    · exact .refl s
  · exact .refl s

theorem referenceFull_keeps (s : State) (scope : Scope) : Keeps s (s.referenceFull scope) := by
  have hnone : Keeps s { s with head := { s.head with reference := none } } := .of_blocks
  unfold State.referenceFull
  dsimp only
  split
  · exact (dueTest_keeps _).after <| (renewSeg_keeps _ _).after <| (endReference_keeps _ _ _).after hnone
  · have hall : ∀ u : State, Keeps u { u.allCurrent true with sched := { (u.allCurrent true).sched with
        pointer := 0, ticks := 0 } } := fun u =>
      .of_blocks (sched := fun h => ⟨(List.length_map _).trans h.1, Nat.zero_le _⟩)
    split
    · exact (hall _).after ((endReference_keeps _ _ _).after hnone)
    · exact (referenceDone_keeps _ _).after ((hall _).after ((endReference_keeps _ _ _).after hnone))

theorem takeReadout_keeps (s : State) (r : Reference) (raw : List (BitVec 12)) :
    Keeps s (s.takeReadout r raw) := by
  have hread : Keeps s (s.withReadout r raw) := .of_blocks (timeouts := fun _ => Nat.zero_le _)
  unfold State.takeReadout
  dsimp only
  split
  · exact (referenceFull_keeps _ _).after hread
  · exact hread

theorem takeReadoutTag_keeps (s : State) (tag : BitVec 8) (raw : List (BitVec 12)) :
    Keeps s (s.takeReadoutTag tag raw) := by
  unfold State.takeReadoutTag
  split
  · exact takeReadout_keeps s _ raw
  · exact takeStale_keeps s

theorem renewRequest_keeps (s : State) (n : Nat) : Keeps s (s.renewRequest n) := .of_blocks

theorem timeOutReadout_keeps (s : State) (v : Setup) (r : Reference) :
    Keeps s (s.timeOutReadout v r) := by
  have hseg : ∀ i, Keeps s (((s.count .lineTimeout).truncateCycle i r.taken).countTimeout v) := fun i =>
    (countTimeout_keeps _ v).after <| (truncateCycle_keeps _ i _).after (Reporting.count s _).toKeeps
  have hall : Keeps s (((s.count .lineTimeout).renewRequest r.taken).countTimeout v) :=
    (countTimeout_keeps _ v).after <| (renewRequest_keeps _ _).after (Reporting.count s _).toKeeps
  unfold State.timeOutReadout
  dsimp only
  split <;> split
  · exact (recompute_reporting _).toKeeps.after (hseg _)
  · exact (dueTest_keeps _).after (hseg _)
  · exact (recompute_reporting _).toKeeps.after hall
  · exact hall

theorem takeReadoutTimeout_keeps (s : State) : Keeps s s.takeReadoutTimeout := by
  unfold State.takeReadoutTimeout
  split
  · split
    · exact timeOutReadout_keeps s _ _
    · exact .refl s
  · exact .refl s

theorem takeProbeTimer_keeps (s : State) : Keeps s s.takeProbeTimer := by
  unfold State.takeProbeTimer
  split
  · exact .refl s
  · split
    · dsimp only
      split
      · exact .of_blocks
      · exact .of_blocks
    · exact .refl s

theorem takeProbeTimeout_keeps (s : State) : Keeps s s.takeProbeTimeout := by
  unfold State.takeProbeTimeout
  split
  · exact .of_blocks
  · exact .refl s

theorem takeTick_keeps (s : State) : Keeps s s.takeTick := by
  unfold State.takeTick
  split
  · split
    · exact (dueTest_keeps _).after (.of_blocks (sched := fun h => ⟨h.1, min_le_left _ _⟩))
    · exact .refl s
  · exact .refl s

theorem takeProcessed_keeps (s : State) : Keeps s s.takeProcessed := by
  unfold State.takeProcessed
  split
  · dsimp only
    split
    · exact (recompute_reporting _).toKeeps.after <| (discardLine_reporting _ _ _).toKeeps.after .of_blocks
    · exact (lineBoundary_keeps _ _).after <| (recompute_reporting _).toKeeps.after <|
        (traceLine_reporting _ _ _).toKeeps.after .of_blocks
  · exact .refl s

/-! ### Commands of the travel unit -/

theorem lineDue_keeps (s : State) (v : Setup) : Keeps s (s.lineDue v) := by
  unfold State.lineDue
  split
  · dsimp only
    split
    · exact .of_blocks
    · exact (noteLine_reporting _ v _).toKeeps.after <| (Reporting.count _ _).toKeeps.after .of_blocks
  · exact .refl s

theorem raiseHighWater_keeps (s : State) (v : Setup) : Keeps s (s.raiseHighWater v) := by
  unfold State.raiseHighWater
  split
  · exact .of_blocks
  · exact .refl s

theorem positionChanged_keeps (s : State) : Keeps s s.positionChanged := by
  unfold State.positionChanged
  split
  · exact .refl s
  · exact (lineDue_keeps _ _).after (raiseHighWater_keeps s _)

theorem moveCount_keeps (s : State) (dir : Direction) (step : Int) : Keeps s (s.moveCount dir step) := by
  have hturn : Keeps s (s.turned step) := .of_blocks
  by_cases hc : s.countAfter step = s.travel.count
  · rw [State.moveCount_of_eq hc]
    exact .refl s
  · rw [State.moveCount_of_ne hc]
    refine (recomputeIfMoved_reporting _ s).toKeeps.after <|
      (markMove_reporting _ dir _).toKeeps.after ?_
    split
    · exact hturn
    · exact (positionChanged_keeps _).after hturn

theorem takePair_keeps (s : State) (a b : Bool) : Keeps s (s.takePair a b) := by
  have hphase : Keeps s (s.withPhase a b) := .of_blocks
  unfold State.takePair
  dsimp only
  split
  · exact .refl s
  · exact (Reporting.count _ _).toKeeps.after <| (Reporting.setFlag _ _).toKeeps.after hphase
  · exact (moveCount_keeps _ _ _).after hphase
  · exact (moveCount_keeps _ _ _).after hphase

theorem takeRise_keeps (s : State) : Keeps s s.takeRise := by
  unfold State.takeRise
  split
  · exact .of_blocks
  · dsimp only
    split
    · exact .of_blocks
    · split
      · exact (enterInspecting_keeps _ _).after .of_blocks
      · exact .of_blocks

theorem takeFall_keeps (s : State) : Keeps s s.takeFall := by
  unfold State.takeFall
  split
  · exact .refl s
  · split <;> exact .of_blocks

theorem takeDropout_keeps (s : State) : Keeps s s.takeDropout := by
  unfold State.takeDropout
  split
  · dsimp only
    split
    · exact .of_blocks
    · split
      · exact (strandEnd_keeps _ _).after .of_blocks
      · exact .of_blocks
  · exact .refl s

theorem takeGate_keeps (s : State) (high : Bool) : Keeps s (s.takeGate high) := by
  unfold State.takeGate
  dsimp only
  split
  · exact .refl s
  · split
    · exact .of_blocks
    · split
      · exact (recomputeIfMoved_reporting _ s).toKeeps.after <| (coveringTest_keeps _ _).after <|
          (lineDue_keeps _ _).after .of_blocks
      · exact .of_blocks

theorem takeCandidate_reporting (s : State) (v : Setup) (p : Int) :
    Reporting s (s.takeCandidate v p) := by
  unfold State.takeCandidate
  split
  · exact .count s _
  · split
    · exact .setFlag s _
    · exact (takeCut_reporting _ v _ _ _).after <| (handFrame_reporting _ _).after .of_blocks

theorem takeCutLevel_reporting (s : State) (high : Bool) : Reporting s (s.takeCutLevel high) := by
  have hlevel : Reporting s (s.withCutLevel high) := .of_blocks
  unfold State.takeCutLevel
  dsimp only
  split
  · exact hlevel
  · split
    · exact (takeCandidate_reporting _ _ _).after hlevel
    · exact hlevel

end Sys2Proof.Machine
end

section
/-! SUPPORT. What the commands of the strand line, of the stations and of resets keep; and that every step
keeps the limits (O52). -/

namespace Sys2Proof.Machine

set_option Elab.async false

/-! ### The sending side -/

theorem tryToSend_reporting (s : State) : Reporting s s.tryToSend := by
  unfold State.tryToSend
  split
  · split
    · exact .of_blocks
    · exact .of_blocks
  · exact .refl s

theorem setAside_reporting (s : State) : Reporting s s.setAside := .of_blocks

theorem leaveQueue_reporting (s : State) : Reporting s s.leaveQueue :=
  .of_blocks (xcvr := fun ⟨hq, hh, _, hb⟩ =>
    ⟨(List.tail_sublist _).length_le.trans hq, ((List.tail_sublist _).countP_le).trans hh, Nat.zero_le _, hb⟩)

theorem loseArbitration_reporting (s : State) : Reporting s s.loseArbitration := by
  unfold State.loseArbitration
  split
  · exact setAside_reporting s
  · exact .refl s

theorem reportDrop_reporting (s : State) (body : TxBody) : Reporting s (s.reportDrop body) := by
  cases body with
  | finding f n => exact recompute_reporting s
  | verdict v => exact .count s _
  | horizon => exact .refl s
  | cut n p => exact .refl s
  | announce id strand face cause mode => exact .refl s
  | status bytes => exact .refl s

theorem collide_reporting (s : State) : Reporting s s.collide := by
  have haside : Reporting s (s.setAside.count .txCollision) :=
    (Reporting.count _ _).after (setAside_reporting s)
  unfold State.collide
  split
  · dsimp only
    split
    · rename_i hlt
      exact Reporting.after (t := s.setAside.count .txCollision)
        (.of_blocks (xcvr := fun ⟨hq, hh, _, hb⟩ => ⟨hq, hh, hlt, hb⟩)) haside
    · split
      · exact (leaveQueue_reporting _).after haside
      · exact (reportDrop_reporting _ _).after <| (Reporting.count _ _).after <|
          (leaveQueue_reporting _).after haside
  · exact .refl s

theorem deliverNote_reporting (s : State) : Reporting s s.deliverNote := by
  unfold State.deliverNote
  split
  · exact .refl s
  · exact (recompute_reporting _).after <| Reporting.after
      (.of_blocks (hz := fun h => ⟨(List.tail_sublist _).length_le.trans h.1, h.2⟩)) (handEntry_reporting s _)

theorem reportSent_reporting (s : State) (body : TxBody) (clearTo : Option Int) :
    Reporting s (s.reportSent body clearTo) := by
  cases body with
  | finding f n => exact recompute_reporting s
  | horizon =>
    unfold State.reportSent State.horizonSent
    dsimp only
    split
    · exact .refl s
    · exact (deliverNote_reporting _).after .of_blocks
  | verdict v => exact .refl s
  | cut n p => exact .refl s
  | announce id strand face cause mode => exact .refl s
  | status bytes => exact .refl s

/-- An empty buffer is within its limit (R95). -/
theorem emptyBuffer_within {x : Transceiver} (h : x.Within) : x.emptyBuffer.Within :=
  ⟨h.1, h.2.1, h.2.2.1, Nat.zero_le _⟩

theorem sentWhole_reporting (s : State) : Reporting s s.sentWhole := by
  have hidle : Reporting s { s.leaveQueue with xcvr := { s.leaveQueue.xcvr.emptyBuffer with
      line := .idle } } :=
    Reporting.after (.of_blocks (xcvr := emptyBuffer_within)) (leaveQueue_reporting s)
  unfold State.sentWhole
  split
  · dsimp only
    split
    · exact hidle
    · exact (reportSent_reporting _ _ _).after hidle
  · exact .refl s

theorem frameBegins_reporting (s : State) : Reporting s s.frameBegins := by
  unfold State.frameBegins
  split
  · exact .of_blocks (xcvr := emptyBuffer_within)
  · exact .refl s

theorem firstIdle_reporting (s : State) : Reporting s s.firstIdle := by
  unfold State.firstIdle
  split
  · exact .of_blocks (xcvr := emptyBuffer_within)
  · exact .refl s

/-! ### Reception -/

theorem frameOver_reporting (s : State) (f : RxFrame) : Reporting s (s.load f).endFrame :=
  .of_blocks (xcvr := fun h => emptyBuffer_within (x := { s.xcvr with
    line := if s.xcvr.send = .sending then .busy else .idle, ending := false }) h)

/-- A frame's end is a report, but for what the hand-off of a qualified frame does. -/
theorem receive_reporting_or_hand (s : State) (c : FrameClass) (f : RxFrame)
    (hand : FrameHead → List Byte → State → State) :
    Reporting s (s.receive c f hand)
      ∨ ∃ h body, (s.load f).qualify c = .passed h body
          ∧ s.receive c f hand = hand h body (s.load f).endFrame := by
  have hover := frameOver_reporting s f
  unfold State.receive
  split
  · exact .inl (.refl s)
  · split
    · exact .inl (firstIdle_reporting s)
    · split
      · exact .inl ((Reporting.count _ _).after ((Reporting.setFlag _ _).after hover))
      · exact .inl ((Reporting.setFlag _ _).after hover)
      · exact .inl hover
      · rename_i h body hq
        exact .inr ⟨h, body, hq, rfl⟩

theorem receive_reporting {hand : FrameHead → List Byte → State → State}
    (hh : ∀ h body u, Reporting u (hand h body u)) (c : FrameClass) (f : RxFrame) (s : State) :
    Reporting s (s.receive c f hand) := by
  obtain h | ⟨h, body, -, e⟩ := receive_reporting_or_hand s c f hand
  · exact h
  · rw [e]
    exact (hh h body _).after (frameOver_reporting s f)

theorem receive_keeps {hand : FrameHead → List Byte → State → State}
    (hh : ∀ h body u, Keeps u (hand h body u)) (c : FrameClass) (f : RxFrame) (s : State) :
    Keeps s (s.receive c f hand) := by
  obtain h | ⟨h, body, -, e⟩ := receive_reporting_or_hand s c f hand
  · exact h.toKeeps
  · rw [e]
    exact (hh h body _).after (frameOver_reporting s f).toKeeps

/-! ### Frames from peers -/

theorem setPeer_reporting (s : State) (p : Peer) : Reporting s (s.setPeer p) :=
  .of_blocks (hz := fun h => ⟨h.1, by simpa using h.2⟩)

/-- A record joins a table that is not full (R111). -/
theorem addPeer_reporting {s : State} (h : ¬ s.peersFull = true) (p : Peer) :
    Reporting s (s.addPeer p) := by
  have hroom : ¬ 8 ≤ s.hz.peers.length := fun hf => h (decide_eq_true hf)
  refine .of_blocks (hz := fun k => ⟨k.1, ?_⟩)
  simp only [State.addPeer_peers, List.length_append, List.length_singleton]
  omega

theorem hear_reporting (s : State) (sender : Nat) : Reporting s (s.hear sender) := by
  unfold State.hear
  split
  · exact .refl s
  · exact setPeer_reporting s _

theorem liveChanged_reporting (s : State) : Reporting s s.liveChanged := by
  unfold State.liveChanged
  split
  · exact .refl s
  · exact (verdictDecision_reporting _ _).after (recomputeHorizon_reporting s _)

theorem testFace_reporting (s : State) (sender face : Nat) :
    Reporting s (s.testFace sender face) := by
  unfold State.testFace
  split
  · exact .setFlag s _
  · exact .refl s

theorem testFace_peers (s : State) (sender face : Nat) :
    (s.testFace sender face).hz = s.hz := by
  unfold State.testFace
  split <;> rfl

theorem handLeavingGap_reporting (s : State) (p : Peer) : Reporting s (s.handLeavingGap p) := by
  unfold State.handLeavingGap
  split
  · exact .refl s
  · exact handEntry_reporting s _

theorem reportMissed_reporting (s : State) (missed sender : Nat) (a : Option Int) (b : Int) :
    Reporting s (s.reportMissed missed sender a b) := by
  unfold State.reportMissed
  split
  · exact .refl s
  · exact (handEntry_reporting _ _).after (.countBy s _ _)

theorem takeCutFrame_reporting (h : FrameHead) (body : List Byte) (s : State) :
    Reporting s (State.takeCutFrame h body s) := by
  unfold State.takeCutFrame
  split
  · exact .refl s
  · split
    · unfold State.placeCut
      split
      · exact (Reporting.count _ _).after (hear_reporting s _)
      · exact (takeCut_reporting _ _ _ _ _).after (hear_reporting s _)
    · exact .refl s

theorem placeFinding_reporting (s : State) (p : Peer) (offset : Int) (f : Finding) :
    Reporting s (s.placeFinding p offset f) := by
  have hface : Reporting s (if p.face.isNone then s.testFace p.id f.face else s) := by
    split
    · exact testFace_reporting s _ _
    · exact .refl s
  exact (handEntry_reporting _ _).after <| (reportMissed_reporting _ _ _ _ _).after <|
    (setPeer_reporting _ _).after hface

theorem takePeerFinding_reporting (s : State) (sender : Nat) (f : Finding) :
    Reporting s (s.takePeerFinding sender f) := by
  unfold State.takePeerFinding
  split
  · exact .count s _
  · split
    · exact .count s _
    · exact placeFinding_reporting s _ _ f

theorem takeFindingFrame_reporting (h : FrameHead) (body : List Byte) (s : State) :
    Reporting s (State.takeFindingFrame h body s) := by
  unfold State.takeFindingFrame
  split
  · exact (takePeerFinding_reporting _ _ _).after (hear_reporting s _)
  · exact .refl s

theorem stepOffset_reporting (s : State) (v : Setup) (p : Peer) (offset : Int) :
    Reporting s (s.stepOffset v p offset) := by
  unfold State.stepOffset
  split
  · exact .count s _
  · exact .refl s

theorem stepNote_reporting (s : State) (sender : Nat) (offset : Int) (note : Option (Int × Int)) :
    Reporting s (s.stepNote sender offset note) := by
  unfold State.stepNote
  split
  · exact .refl s
  · exact handEntry_reporting s _

theorem stepCovering_reporting (s : State) (p : Peer) (covering : Bool) (clearTo : Int) :
    Reporting s (s.stepCovering p covering clearTo) := by
  unfold State.stepCovering
  split
  · exact handEntry_reporting s _
  · exact closeGap_reporting s _ _ _ _
  · exact .refl s

theorem fiveSteps_reporting (s : State) (v : Setup) (p : Peer) (b : HorizonBody) :
    Reporting s (s.fiveSteps v p b) := by
  unfold State.fiveSteps
  extract_lets offset clearTo t u w
  have ht : Reporting s t := (reportMissed_reporting _ _ _ _ _).after <|
    (stepNote_reporting _ _ _ _).after (stepOffset_reporting s v p offset)
  have hw : Reporting s w := (recomputeHorizon_reporting _ v).after <|
    (setPeer_reporting _ _).after ((stepCovering_reporting _ _ _ _).after ht)
  split
  · exact hw
  · exact (verdictDecision_reporting _ v).after hw

theorem ensurePeer_reporting (s : State) (sender : Nat) : Reporting s (s.ensurePeer sender) := by
  unfold State.ensurePeer
  split
  · exact hear_reporting s sender
  · split
    · exact .setFlag s _
    · rename_i hfull
      exact addPeer_reporting hfull _

theorem takeHorizonFrame_reporting (h : FrameHead) (body : List Byte) (s : State) :
    Reporting s (State.takeHorizonFrame h body s) := by
  have he := ensurePeer_reporting s h.sender
  unfold State.takeHorizonFrame
  split
  · exact .refl s
  · dsimp only
    split
    · split
      · exact (fiveSteps_reporting _ _ _ _).after he
      · exact he
    · exact he

theorem takeVerdictFrame_reporting (h : FrameHead) (body : List Byte) (s : State) :
    Reporting s (State.takeVerdictFrame h body s) := by
  unfold State.takeVerdictFrame
  split
  · exact (hearVerdict_reporting _ _).after (hear_reporting s _)
  · exact .refl s

theorem takeAnnounce_reporting (s : State) (sender face : Nat) :
    Reporting s (s.takeAnnounce sender face) := by
  unfold State.takeAnnounce
  split
  · split
    · exact .setFlag s _
    · rename_i hfull
      refine Reporting.after (addPeer_reporting ?_ _) (testFace_reporting s sender face)
      unfold State.peersFull
      rw [testFace_peers]
      exact hfull
  · have hset : ∀ p q : Peer,
        Reporting s (((s.testFace sender face).handLeavingGap p).setPeer q) := fun p q =>
      (setPeer_reporting _ q).after <| (handLeavingGap_reporting _ p).after (testFace_reporting s _ _)
    dsimp only
    split
    · exact (liveChanged_reporting _).after (hset _ _)
    · exact hset _ _

theorem takeAnnounceFrame_reporting (h : FrameHead) (body : List Byte) (s : State) :
    Reporting s (State.takeAnnounceFrame h body s) := by
  unfold State.takeAnnounceFrame
  split
  · exact .refl s
  · split
    · exact (takeAnnounce_reporting _ _ _).after (hear_reporting s _)
    · exact hear_reporting s _

theorem discardFrame_reporting (h : FrameHead) (body : List Byte) (s : State) :
    Reporting s (State.discardFrame h body s) := .refl s

/-! ### Timers of the horizon unit and of the mode controller -/

theorem takeSilence_reporting (s : State) (id : Nat) : Reporting s (s.takeSilence id) := by
  unfold State.takeSilence
  split
  · exact .refl s
  · rename_i p _
    split
    · have hset : Reporting s ((s.handLeavingGap p).setPeer p.silenced) :=
        (setPeer_reporting _ _).after (handLeavingGap_reporting s p)
      unfold State.silence
      dsimp only
      split
      · exact (liveChanged_reporting _).after hset
      · exact hset
    · exact .refl s

theorem takeHorizonTimer_reporting (s : State) : Reporting s s.takeHorizonTimer := by
  unfold State.takeHorizonTimer
  split
  · split
    · exact (handFrame_reporting _ _).after .of_blocks
    · exact .refl s
  · exact .refl s

theorem takeAnnounceTimer_reporting (s : State) : Reporting s s.takeAnnounceTimer := by
  unfold State.takeAnnounceTimer
  split
  · exact .refl s
  · split
    · dsimp only
      split
      · exact .of_blocks
      · exact (handFrame_reporting _ _).after .of_blocks
    · exact .refl s

/-! ### Frames from stations -/

theorem takeStatusReqFrame_keeps (h : FrameHead) (body : List Byte) (s : State) :
    Keeps s (State.takeStatusReqFrame h body s) := by
  have hf := (handFrame_reporting s (s.statusFrame h.sender)).toKeeps
  have hclear : ∀ u : State, Keeps u u.clearFlags := fun _ => ⟨fun h => { h with }, id, id⟩
  unfold State.takeStatusReqFrame
  split
  · exact .refl s
  · dsimp only
    split
    · exact (hclear _).after hf
    · exact hf

theorem openOwnGap_reporting (s : State) (v : Setup) :
    Reporting { s with hz := { s.hz with ownGap := some (s.frontier v) } } (s.openOwnGap v) :=
  handEntry_reporting _ _

/-- Position, strand-present and gate state taken up, and the timers of the other blocks. -/
theorem setupTaken_keeps (s : State) (v : Setup) : Keeps s ((s.setupTravel v).setupBlocks v) :=
  .of_blocks (hz := fun h => ⟨h.1, by simpa [State.setupBlocks, State.setupTravel] using h.2⟩)

theorem setupHorizon_keeps (s : State) (v : Setup) : Keeps s (s.setupHorizon v) :=
  (openOwnGap_reporting _ v).toKeeps.after <| (Keeps.of_blocks).after <|
    (recomputeHorizon_reporting _ v).toKeeps.after .of_blocks

theorem acceptSetup_keeps (s : State) (v : Setup) : Keeps s (s.acceptSetup v) :=
  (startAll_keeps _).after <| (handFrame_reporting _ _).toKeeps.after <| (setupHorizon_keeps _ v).after <|
    (setupTaken_keeps _ v).after .of_blocks

/-! ### Resets -/

theorem beginReset_keeps (s : State) (c : ResetCause) : Keeps s (s.beginReset c) := .of_blocks

theorem resetBlocks_limits (s : State) (p : Straps) (c : ResetCause) : Limits (s.resetBlocks p c) where
  xcvr := ⟨Nat.zero_le _, Nat.zero_le _, Nat.zero_le _, Nat.zero_le _⟩
  hz := ⟨Nat.zero_le _, Nat.zero_le _⟩
  record := ⟨Nat.zero_le _, Nat.zero_le _⟩
  billets := Nat.zero_le _
  marker := ⟨Nat.zero_le _, Nat.zero_le _⟩
  slots := rfl
  sched := ⟨rfl, Nat.zero_le _⟩
  timeouts := Nat.zero_le _

/-- A pin reset keeps the diagnostics, a power-on reset clears them (R208). -/
theorem resetBlocks_counterInv {s : State} (h : CounterInv s) (p : Straps) (c : ResetCause) :
    CounterInv (s.resetBlocks p c) := by
  cases c with
  | power => exact reset_counterInv
  | pin => exact h

theorem resetBlocks_keeps (s : State) (p : Straps) (c : ResetCause) : Keeps s (s.resetBlocks p c) :=
  ⟨fun _ => resetBlocks_limits s p c, fun h => resetBlocks_counterInv h p c, fun _ => reset_gainInv⟩

theorem endReset_keeps (s : State) (p : Straps) (c : ResetCause) : Keeps s (s.endReset p c) := by
  unfold State.endReset
  dsimp only
  split
  · exact resetBlocks_keeps s p c
  · exact (handFrame_reporting _ _).toKeeps.after (resetBlocks_keeps s p c)

/-- What the end of a reset answers: the reset values where one is in progress (R199; log 3). -/
theorem resetEnd_cases {dt : Nat} {p : Straps} {s t : State} (h : exec (.resetEnd dt p) s = .next t) :
    s.resetting = none ∧ t = s.begin dt ∨ ∃ cause, s.resetting = some cause ∧ t = s.endReset p cause := by
  have h : execResetEnd dt p s = .next t := h
  unfold execResetEnd at h
  split at h
  · rename_i hr
    injection h with h
    exact .inl ⟨hr, h.symm⟩
  · rename_i cause hr
    injection h with h
    exact .inr ⟨cause, hr, h.symm⟩

/-! ### Every command -/

theorem begin_reporting (s : State) (dt : Nat) : Reporting s (s.begin dt) := .of_blocks

theorem event_keeps {f : State → State} (hf : ∀ s, Keeps s (f s)) {dt : Nat} {s t : State}
    (h : event dt f s = .next t) : Keeps s t := by
  obtain rfl | ⟨-, rfl⟩ := event_cases h
  · exact (begin_reporting s dt).toKeeps
  · exact (hf _).after (begin_reporting s dt).toKeeps

theorem inputEvent_keeps {set : Pins → Pins} {f : State → State} (hf : ∀ s, Keeps s (f s)) {dt : Nat}
    {s t : State} (h : inputEvent dt set f s = .next t) : Keeps s t := by
  have hpins : Keeps s { s.begin dt with pins := set s.pins } := .of_blocks
  obtain rfl | ⟨-, rfl⟩ := inputEvent_cases h
  · exact hpins
  · exact (hf _).after hpins

theorem event_reporting {f : State → State} (hf : ∀ s, Reporting s (f s)) {dt : Nat} {s t : State}
    (h : event dt f s = .next t) : Reporting s t := by
  obtain rfl | ⟨-, rfl⟩ := event_cases h
  · exact begin_reporting s dt
  · exact (hf _).after (begin_reporting s dt)

/-- The commands that are reports alone: they leave mode, covering, head port, segments and corrector. -/
def Instr.onlyReports : Instr → Bool
  | .cutInputEdge _ _ => true
  | .transmitTry _ => true
  | .arbitrationLost _ => true
  | .collision _ => true
  | .frameSentWhole _ => true
  | .cutFrame _ _ => true
  | .findingFrame _ _ => true
  | .horizonFrame _ _ => true
  | .verdictFrame _ _ => true
  | .announceFrame _ _ => true
  | .statusFrame _ _ => true
  | .silenceTimerExpiry _ _ => true
  | .horizonTimerExpiry _ => true
  | .announceTimerExpiry _ => true
  | .newFrameBegins _ => true
  | .idleGapAfterReset _ => true
  | .frameOfUndefinedClass _ _ => true
  | _ => false

theorem exec_reporting {c : Instr} (hc : Instr.onlyReports c = true) {s t : State}
    (h : exec c s = .next t) : Reporting s t := by
  have frame : ∀ {cl f hand dt}, (∀ h body u, Reporting u (hand h body u)) →
      event dt (State.receive cl f hand) s = .next t → Reporting s t :=
    fun hh => event_reporting (receive_reporting hh _ _)
  cases c with
  | cutInputEdge dt high =>
    rw [exec_cutInputEdge] at h
    have hpins : Reporting s { s.begin dt with pins := { s.pins with cut := high } } := .of_blocks
    obtain rfl | ⟨-, rfl⟩ := inputEvent_cases h
    · exact hpins
    · exact (takeCutLevel_reporting _ high).after hpins
  | transmitTry dt => exact event_reporting tryToSend_reporting h
  | arbitrationLost dt => exact event_reporting loseArbitration_reporting h
  | collision dt => exact event_reporting collide_reporting h
  | frameSentWhole dt => exact event_reporting sentWhole_reporting h
  | cutFrame dt f => exact frame takeCutFrame_reporting h
  | findingFrame dt f => exact frame takeFindingFrame_reporting h
  | horizonFrame dt f => exact frame takeHorizonFrame_reporting h
  | verdictFrame dt f => exact frame takeVerdictFrame_reporting h
  | announceFrame dt f => exact frame takeAnnounceFrame_reporting h
  | statusFrame dt f => exact frame discardFrame_reporting h
  | silenceTimerExpiry dt p => exact event_reporting (takeSilence_reporting · p) h
  | horizonTimerExpiry dt => exact event_reporting takeHorizonTimer_reporting h
  | announceTimerExpiry dt => exact event_reporting takeAnnounceTimer_reporting h
  | newFrameBegins dt => exact event_reporting frameBegins_reporting h
  | idleGapAfterReset dt => exact event_reporting firstIdle_reporting h
  | frameOfUndefinedClass dt f => exact frame discardFrame_reporting h
  | _ => exact nomatch hc

theorem exec_keeps {c : Instr} {s t : State} (h : exec c s = .next t) : Keeps s t := by
  cases hc : Instr.onlyReports c with
  | true => exact (exec_reporting hc h).toKeeps
  | false =>
    cases c with
    | encoderTransition dt a b =>
      rw [exec_encoderTransition] at h
      exact inputEvent_keeps (takePair_keeps · a b) h
    | strandRise dt =>
      rw [exec_strandRise] at h
      refine inputEvent_keeps (fun u => ?_) h
      split
      · exact .refl u
      · exact takeRise_keeps u
    | strandFall dt =>
      rw [exec_strandFall] at h
      refine inputEvent_keeps (fun u => ?_) h
      split
      · exact takeFall_keeps u
      · exact .refl u
    | gateChange dt high =>
      rw [exec_gateChange] at h
      exact inputEvent_keeps (takeGate_keeps · high) h
    | dropoutTimerExpiry dt => exact event_keeps takeDropout_keeps h
    | lineArrival dt tag raw w => exact event_keeps (takeArrival_keeps · tag raw w) h
    | lineTimeout dt => exact event_keeps takeLineTimeout_keeps h
    | referenceReadout dt tag raw => exact event_keeps (takeReadoutTag_keeps · tag raw) h
    | readoutTimeout dt => exact event_keeps takeReadoutTimeout_keeps h
    | probeTimerExpiry dt => exact event_keeps takeProbeTimer_keeps h
    | probeTimeout dt => exact event_keeps takeProbeTimeout_keeps h
    | probeArrival dt tag raw w => exact event_keeps (takeArrival_keeps · tag raw w) h
    | tick dt => exact event_keeps takeTick_keeps h
    | processedLine dt => exact event_keeps takeProcessed_keeps h
    | setupFrame dt f =>
      exact event_keeps (receive_keeps (hand := State.takeSetupFrame)
        (fun _ _ u => acceptSetup_keeps u _) _ f) h
    | buildFrame dt f =>
      exact event_keeps (receive_keeps (hand := State.takeBuildFrame) (fun _ _ _ => .of_blocks) _ f) h
    | statusReqFrame dt f =>
      exact event_keeps (receive_keeps takeStatusReqFrame_keeps _ f) h
    | powerOnReset dt =>
      injection h with h
      exact h ▸ (beginReset_keeps _ _).after (begin_reporting s dt).toKeeps
    | pinReset dt =>
      injection h with h
      exact h ▸ (beginReset_keeps _ _).after (begin_reporting s dt).toKeeps
    | resetEnd dt p =>
      obtain ⟨-, rfl⟩ | ⟨cause, -, rfl⟩ := resetEnd_cases h
      · exact (begin_reporting s dt).toKeeps
      · exact endReset_keeps s p cause
    | _ => exact nomatch hc

/-- What every command makes of the state it finds, every step makes of it (log 2). -/
theorem step_of_exec {P : State → State → Prop} (hrefl : ∀ s, P s s)
    (hexec : ∀ {c : Instr} {s t : State}, exec c s = .next t → P s t)
    (hpending : ∀ {s t : State} (rest : List Instr), P { s with pending := rest } t → P s t)
    {s t : State} (h : step s = .next t) : P s t := by
  unfold step at h
  split at h
  · injection h with h
    exact h ▸ hrefl s
  · rename_i c rest _
    exact hpending rest (hexec h)

theorem step_keeps {s t : State} (h : step s = .next t) : Keeps s t :=
  step_of_exec .refl exec_keeps (fun _ k => k.after .of_blocks) h

/-- Settles O52: every command keeps the limits, block by block. -/
theorem capacitiesAreKept : Obligations.CapacitiesAreKept := fun s t hs h =>
  (capacityInv_iff t).mpr ((step_keeps h).limits ((capacityInv_iff s).mp hs))

end Sys2Proof.Machine
end

section
/-! SUPPORT. The invariants of modes, covering, sensor port and segments, and of the corrector's tables, as
laws of the node's stance; and the changes of stance that keep them. -/

namespace Sys2Proof.Machine

set_option Elab.async false

/-! ### The laws of a stance -/

/-- The scope of the reference outstanding. -/
def Stance.scope (x : Stance) : Option Scope := x.reference.map Reference.scope

/-- Setup, mode, covering and own GAP agree (R121, R191, R197). -/
structure CoverLaw (mode : Mode) (setup : Option Setup) (covering : Bool) (strand : StrandPresent)
    (gate : GateState) (ownGap : Option Int) : Prop where
  setup_eq : setup.isSome = mode.configured
  strand_of : mode = .inspecting → strand = .asserted
  covering_eq : covering = (mode == .inspecting && strand == .asserted && gate == .opened)
  ownGap_eq : ownGap.isSome = (mode.configured && !covering)

/-- What is asked of the head fits the mode (R7, R23, R26, R27). -/
structure PortLaw (mode : Mode) (line : Option LineInFlight) (probe : Option Probe)
    (probeTimer : Option Nat) (reference : Option Reference) : Prop where
  line_of : line.isSome = true → mode = .inspecting
  probe_of : probe.isSome = true → mode = .headFault
  probeTimer_of : probeTimer.isSome = true → mode = .headFault
  reference_of : reference.isSome = true → mode ≠ .headFault

/-- At most one segment is not CURRENT, and the BLIND one is that of the reference outstanding (R28,
R35). -/
structure CycleLaw (segState : Fin 8 → SegState) (allRunning : Bool) (scope : Option Scope) : Prop where
  one : ∀ i j, segState i ≠ .current → segState j ≠ .current → i = j
  all : allRunning = true ↔ scope = some .all
  blind : ∀ i, segState i = .blind ↔ scope = some (.segment i)

abbrev Stance.Covered (x : Stance) : Prop :=
  CoverLaw x.mode x.setup x.covering x.strand x.gate x.ownGap

abbrev Stance.Ports (x : Stance) : Prop := PortLaw x.mode x.line x.probe x.probeTimer x.reference

abbrev Stance.Cycle (x : Stance) : Prop := CycleLaw x.segState x.allRunning x.scope

/-- A stance outside a reset in which all of this holds. -/
structure Stance.Sound (x : Stance) : Prop where
  running : x.resetting = none
  covered : x.Covered
  ports : x.Ports
  segs : x.segCount = 8
  cycle : x.Cycle
  referencing : x.allRunning = true → x.mode = .referencing

/-- How many pixels a scope has (R24). -/
def Scope.pixels : Scope → Nat
  | .segment _ => 256
  | .all => 2048

/-- The corrector's tables, the accumulators and a BUSY build have their sizes (R33, R51 to R53). -/
structure Stance.Tables (x : Stance) : Prop where
  dark : x.corr.dark.length = 2048
  gain : x.corr.gain.length = 2048
  sums : x.corr.sums.length = 2048
  samples : x.corr.samples.length = 2048
  accum : ∀ r ∈ x.reference, x.accum.length = r.scope.pixels
  busy : x.corr.build = .busy → x.mode = .inspecting ∧ ∃ g ∈ x.corr.target, x.corr.lines < g

/-- The dark table and the accumulators have their sizes (R33). -/
def Stance.Measured (x : Stance) : Prop :=
  x.corr.dark.length = 2048 ∧ ∀ r ∈ x.reference, x.accum.length = r.scope.pixels

theorem Stance.Tables.measured {x : Stance} (h : x.Tables) : x.Measured := ⟨h.dark, h.accum⟩

theorem coveringInv_iff (s : State) : CoveringInv s ↔ s.stance.Covered :=
  ⟨fun ⟨h1, h2, h3, h4⟩ => ⟨h1, h2, h3, h4⟩, fun ⟨h1, h2, h3, h4⟩ => ⟨h1, h2, h3, h4⟩⟩

theorem portInv_iff (s : State) : PortInv s ↔ s.stance.Ports :=
  ⟨fun ⟨h1, h2, h3, h4⟩ => ⟨h1, h2, h3, h4⟩, fun ⟨h1, h2, h3, h4⟩ => ⟨h1, h2, h3, h4⟩⟩

theorem blindInv_iff (s : State) : BlindInv s ↔ s.stance.segCount = 8 ∧ (s.stance.resetting = none →
    s.stance.Cycle ∧ (s.stance.allRunning = true → s.stance.mode = .referencing)) :=
  and_congr_right fun _ => imp_congr_right fun _ =>
    ⟨fun ⟨h1, h2, h3, h4⟩ => ⟨⟨h1, h2, h4⟩, h3⟩, fun ⟨⟨h1, h2, h4⟩, h3⟩ => ⟨h1, h2, h3, h4⟩⟩

/-- Outside a reset the invariant of the modes is soundness of the stance. -/
theorem modesInv_iff_sound {s : State} (hr : s.resetting = none) : ModesInv s ↔ s.stance.Sound := by
  unfold ModesInv
  rw [coveringInv_iff, portInv_iff, blindInv_iff]
  constructor
  · rintro ⟨hc, hp, hs, hb⟩
    obtain ⟨hcyc, href⟩ := hb hr
    exact ⟨hr, hc, hp, hs, hcyc, href⟩
  · rintro ⟨-, hc, hp, hs, hcyc, href⟩
    exact ⟨hc, hp, hs, fun _ => ⟨hcyc, href⟩⟩

theorem ModesInv.of_stance {s t : State} (h : ModesInv s) (e : t.stance = s.stance) : ModesInv t := by
  unfold ModesInv at h ⊢
  rw [coveringInv_iff, portInv_iff, blindInv_iff] at h ⊢
  rwa [e]

theorem correctorInv_iff (s : State) : CorrectorInv s ↔ s.stance.Tables := by
  have hacc : ∀ r : Reference, (s.sched.accum.length = match r.scope with
      | .all => 2048 | .segment _ => 256) ↔ s.sched.accum.length = r.scope.pixels := fun r => by
    cases r.scope <;> exact Iff.rfl
  constructor
  · rintro ⟨h1, h2, h3, h4, h5, h6⟩
    exact ⟨h1, h2, h3, h4, fun r hr => (hacc r).mp (h5 r hr), h6⟩
  · rintro ⟨h1, h2, h3, h4, h5, h6⟩
    exact ⟨h1, h2, h3, h4, fun r hr => (hacc r).mpr (h5 r hr), h6⟩

/-! ### From one state to the next -/

/-- From a sound stance `s` goes over to a sound one, and the tables keep their sizes. -/
structure Leads (s t : State) : Prop where
  sound : s.stance.Sound → t.stance.Sound
  tables : s.stance.Sound → s.stance.Tables → t.stance.Tables

theorem Leads.of_eq {s t : State} (h : t.stance = s.stance) : Leads s t := by
  constructor <;> rw [h]
  · exact id
  · exact fun _ => id

/-- By the stance that the step leaves. -/
theorem Leads.of_stance {s t : State} {x : Stance} (e : t.stance = x)
    (hs : s.stance.Sound → x.Sound) (ht : s.stance.Sound → s.stance.Tables → x.Tables) : Leads s t := by
  subst e
  exact ⟨hs, ht⟩

theorem Leads.after {s t u : State} (h : Leads t u) (k : Leads s t) : Leads s u :=
  ⟨h.sound ∘ k.sound, fun hs ht => h.tables (k.sound hs) (k.tables hs ht)⟩

/-- What the stance before gives may be used. -/
theorem Leads.of_sound {s t : State} (h : s.stance.Sound → Leads s t) : Leads s t :=
  ⟨fun hs => (h hs).sound hs, fun hs => (h hs).tables hs⟩

theorem Reporting.leads {s t : State} (h : Reporting s t) : Leads s t := .of_eq h.stance

theorem Leads.refl (s : State) : Leads s s := .of_eq rfl

/-- Reports follow. -/
theorem Leads.report {s t u : State} (h : Leads s t) (k : Reporting t u) : Leads s u := k.leads.after h

/-! ### Segments -/

section
variable {s : State} (h : s.sched.segs.length = 8)
include h

theorem stance_setSeg (i : Fin 8) (g : Segment) :
    (s.setSeg i g).stance
      = { s.stance with segState := Function.update s.stance.segState i g.state } := by
  have hstate : (fun j => ((s.setSeg i g).seg j).state)
      = Function.update (fun j => (s.seg j).state) i g.state := by
    funext j
    by_cases hij : j = i
    · subst hij
      simp [State.seg, State.setSeg, h]
    · have hne : i.val ≠ j.val := fun e => hij (Fin.ext e.symm)
      simp [State.seg, State.setSeg, Function.update_of_ne hij, List.getElem?_set_ne hne]
  have hcount : (s.setSeg i g).sched.segs.length = s.sched.segs.length := List.length_set
  unfold State.stance
  rw [hstate, hcount]
  rfl

end

theorem map_current_segState (segs : List Segment) (f : Segment → Segment)
    (hf : ∀ g, (f g).state = .current) (j : Nat) : ((segs.map f).getD j {}).state = .current := by
  rw [List.getD_eq_getElem?_getD, List.getElem?_map]
  cases segs[j]? with
  | none => rfl
  | some g => exact hf g

/-! ### Stances of the cycle -/

section
variable {x : Stance}

/-- With a cycle outstanding every other segment is CURRENT. -/
theorem CycleLaw.others_current (h : x.Cycle) {i : Fin 8} (hs : x.scope = some (.segment i))
    {j : Fin 8} (hj : j ≠ i) : x.segState j = .current := by
  by_contra hne
  have hi : x.segState i = .blind := (h.blind i).mpr hs
  exact hj (h.one j i hne (by rw [hi]; decide))

theorem CycleLaw.not_all (h : x.Cycle) (hs : x.scope ≠ some .all) : x.allRunning = false := by
  by_contra hne
  exact hs (h.all.mp (by simpa using hne))

/-- No segment is BLIND while no cycle is outstanding. -/
theorem CycleLaw.not_blind (h : x.Cycle) (hs : ∀ i, x.scope ≠ some (.segment i)) (i : Fin 8) :
    x.segState i ≠ .blind := fun hb => hs i ((h.blind i).mp hb)

/-- With one segment replaced in an otherwise CURRENT set, at most one is not CURRENT. -/
theorem one_of_update {f : Fin 8 → SegState} {i : Fin 8} (h : ∀ j, j ≠ i → f j = .current)
    (g : SegState) (a b : Fin 8) (ha : Function.update f i g a ≠ .current)
    (hb : Function.update f i g b ≠ .current) : a = b := by
  have hi : ∀ j, Function.update f i g j ≠ .current → j = i := fun j hj => by
    by_contra hne
    rw [Function.update_of_ne hne] at hj
    exact hj (h j hne)
  rw [hi a ha, hi b hb]

theorem not_blind_of_update {f : Fin 8 → SegState} {i : Fin 8} (h : ∀ j, j ≠ i → f j = .current)
    {g : SegState} (hg : g ≠ .blind) (j : Fin 8) : Function.update f i g j ≠ .blind := by
  by_cases hj : j = i
  · rw [hj, Function.update_self]
    exact hg
  · rw [Function.update_of_ne hj, h j hj]
    decide

/-- A stance without a reference, without a BLIND segment, with at most one DUE. -/
theorem cycle_of_none (hr : x.reference = none) (ha : x.allRunning = false)
    (hb : ∀ i, x.segState i ≠ .blind)
    (hone : ∀ i j, x.segState i ≠ .current → x.segState j ≠ .current → i = j) : x.Cycle where
  one := hone
  all := by simp [Stance.scope, hr, ha]
  blind i := by simp [Stance.scope, hr, hb i]

/-- A stance with the all-segment reference outstanding. -/
theorem cycle_of_all {r : Reference} (hr : x.reference = some r) (hs : r.scope = .all)
    (ha : x.allRunning = true) (hb : ∀ i, x.segState i ≠ .blind)
    (hone : ∀ i j, x.segState i ≠ .current → x.segState j ≠ .current → i = j) : x.Cycle where
  one := hone
  all := by simp [Stance.scope, hr, hs, ha]
  blind i := by simp [Stance.scope, hr, hs, hb i]

/-- A stance with the cycle of segment i outstanding, every other segment CURRENT. -/
theorem cycle_of_segment {f : Fin 8 → SegState} {i : Fin 8} (h : ∀ j, j ≠ i → f j = .current)
    (hf : x.segState = Function.update f i .blind) {r : Reference} (hr : x.reference = some r)
    (hs : r.scope = .segment i) (ha : x.allRunning = false) : x.Cycle where
  one := by
    rw [hf]
    exact one_of_update h _
  all := by simp [Stance.scope, hr, hs, ha]
  blind j := by
    by_cases hj : j = i
    · simp [Stance.scope, hr, hs, hf, hj]
    · have hne : i ≠ j := Ne.symm hj
      simp [Stance.scope, hr, hs, hf, h j hj, Function.update_of_ne hj, hne]

end

/-! ### The dark table (R33) -/

theorem length_writeDark {dark means : List Nat} (hd : dark.length = 2048) {scope : Scope}
    (hm : means.length = scope.pixels) : (writeDark scope means dark).length = 2048 := by
  cases scope with
  | all => exact hm
  | segment i =>
    have hi := i.isLt
    have hm' : means.length = 256 := hm
    simp only [writeDark, Config.segColumns, List.length_append, List.length_take, List.length_drop, hd,
      hm']
    omega

/-- The dark table after a reference of this scope that ended after n readouts. -/
def Stance.darkAfter (x : Stance) (scope : Scope) (n : Nat) : List Nat :=
  if 8 ≤ n then writeDark scope (x.accum.map (· / n)) x.corr.dark else x.corr.dark

theorem length_darkAfter {x : Stance} (h : x.Measured) {r : Reference} (hr : x.reference = some r)
    (n : Nat) : (x.darkAfter r.scope n).length = 2048 := by
  unfold Stance.darkAfter
  split
  · exact length_writeDark h.1 ((List.length_map _).trans (h.2 r hr))
  · exact h.1

/-! ### What the references leave of a stance -/

/-- The stance after a reference is over: none outstanding, none running, the accumulators empty. -/
def Stance.referenceOver (x : Stance) (f : Fin 8 → SegState) (dark : List Nat) : Stance :=
  { x with reference := none, segState := f, allRunning := false, accum := []
           corr := { x.corr with dark := dark } }

theorem not_allRunning_of_segment {s : State} (hc : s.stance.Cycle) {r : Reference}
    (h : s.head.reference = some r) {i : Fin 8} (hs : r.scope = .segment i) :
    s.stance.allRunning = false :=
  hc.not_all (by simp [Stance.scope, State.stance, h, hs])

theorem others_current_of_segment {s : State} (hc : s.stance.Cycle) {r : Reference}
    (h : s.head.reference = some r) {i : Fin 8} (hs : r.scope = .segment i) (j : Fin 8) (hj : j ≠ i) :
    s.stance.segState j = .current :=
  hc.others_current (by simp [Stance.scope, State.stance, h, hs]) hj

section
variable {s : State} {r : Reference} (h : s.head.reference = some r)
include h

/-- The reference stopped and its means taken, before its segments change. -/
theorem stopAndEnd_stance (scope : Scope) (n : Nat) :
    (s.stopReference.endReference scope n).stance
      = { s.stance with reference := none, accum := []
                        corr := { s.corr with dark := s.stance.darkAfter scope n } } := by
  rw [stopReference_of_some h]
  rfl

theorem stopAndEnd_segs (scope : Scope) (n : Nat) :
    (s.stopReference.endReference scope n).sched.segs = s.sched.segs := by
  rw [stopReference_of_some h]
  rfl

/-- The reference over, with the record of segment i replaced by one of this state. -/
theorem stopAndEnd_setSeg_stance (hlen : s.sched.segs.length = 8) (hc : s.stance.Cycle) {i : Fin 8}
    (hs : r.scope = .segment i) (n : Nat) (g : Segment) :
    ((s.stopReference.endReference (.segment i) n).setSeg i g).stance
      = s.stance.referenceOver (Function.update s.stance.segState i g.state)
          (s.stance.darkAfter r.scope n) := by
  have ha := not_allRunning_of_segment hc h hs
  rw [stance_setSeg (by rw [stopAndEnd_segs h, hlen]), stopAndEnd_stance h, hs]
  unfold Stance.referenceOver
  rw [← ha]
  rfl

/-- A cycle cut short for good leaves its segment CURRENT (R37). -/
theorem truncateCycle_stance (hlen : s.sched.segs.length = 8) (hc : s.stance.Cycle) {i : Fin 8}
    (hs : r.scope = .segment i) (n : Nat) :
    (s.truncateCycle i n).stance = s.stance.referenceOver
      (Function.update s.stance.segState i .current) (s.stance.darkAfter r.scope n) := by
  unfold State.truncateCycle
  dsimp only
  split <;> exact stopAndEnd_setSeg_stance h hlen hc hs n _

/-- The cycle cut short for the all-segment reference leaves its segment CURRENT or DUE (R35). -/
theorem truncateForAll_stance (hlen : s.sched.segs.length = 8) (hc : s.stance.Cycle) {i : Fin 8}
    (hs : r.scope = .segment i) (n : Nat) :
    ∃ g : SegState, g ≠ .blind ∧ (s.truncateForAll i n).stance = s.stance.referenceOver
      (Function.update s.stance.segState i g) (s.stance.darkAfter r.scope n) := by
  unfold State.truncateForAll
  dsimp only
  split
  · exact ⟨.current, by decide, stopAndEnd_setSeg_stance h hlen hc hs n
      { state := .current, lastReference := some _, postponed := 0 }⟩
  · exact ⟨.due, by decide, stopAndEnd_setSeg_stance h hlen hc hs n
      { State.seg _ i with state := .due, postponed := 0 }⟩

end

theorem allCurrent_stance (s : State) (accepted : Bool) :
    (s.allCurrent accepted).stance
      = { s.stance with segState := fun _ => .current, allRunning := false } := by
  have hstate := funext fun j : Fin 8 => map_current_segState s.sched.segs (fun g =>
    { state := .current, postponed := 0
      lastReference := if accepted then some s.nodeTime else g.lastReference }) (fun _ => rfl) j
  have hcount : (s.allCurrent accepted).sched.segs.length = s.sched.segs.length := List.length_map _
  rw [← hstate]
  unfold State.stance
  rw [hcount]
  rfl

/-- An all-segment reference cut short leaves every segment CURRENT (R37). -/
theorem truncateAll_stance {s : State} {r : Reference} (h : s.head.reference = some r)
    (hs : r.scope = .all) (n : Nat) :
    (s.truncateAll n).stance = s.stance.referenceOver (fun _ => .current)
      (s.stance.darkAfter r.scope n) := by
  unfold State.truncateAll
  rw [allCurrent_stance, stopAndEnd_stance h, hs]
  rfl

/-- What a stance is after the reference outstanding, if any, is cut short by a head fault: none
outstanding, none running, no segment BLIND and at most one not CURRENT. -/
theorem truncateByFault_stance {s : State} (hlen : s.sched.segs.length = 8) (hc : s.stance.Cycle) :
    ∃ f a d, s.truncateByFault.stance
      = { s.stance with reference := none, segState := f, allRunning := false, accum := a
                        corr := { s.corr with dark := d } }
      ∧ (∀ i, f i ≠ .blind) ∧ (∀ i j, f i ≠ .current → f j ≠ .current → i = j)
      ∧ (s.stance.Measured → d.length = 2048) := by
  unfold State.truncateByFault
  split
  · rename_i hr
    have hscope : s.stance.scope = none := by simp [Stance.scope, State.stance, hr]
    have ha : s.stance.allRunning = false := hc.not_all (by rw [hscope]; exact nofun)
    refine ⟨s.stance.segState, s.stance.accum, s.corr.dark, ?_, hc.not_blind (by rw [hscope]; exact nofun),
      hc.one, fun h => h.1⟩
    rw [← ha, ← hr]
    rfl
  · rename_i r hr
    split
    · rename_i i hs
      have hothers := others_current_of_segment hc hr hs
      exact ⟨_, [], _, truncateCycle_stance hr hlen hc hs r.taken,
        not_blind_of_update hothers (by decide), one_of_update hothers _,
        fun h => length_darkAfter h hr _⟩
    · rename_i hs
      exact ⟨_, [], _, truncateAll_stance hr hs r.taken, fun _ => by decide,
        fun _ _ hne => absurd rfl hne, fun h => length_darkAfter h hr _⟩

/-- What a stance is after the all-segment reference is asked for (R35). -/
theorem startAll_stance {s : State} (hlen : s.sched.segs.length = 8) (hc : s.stance.Cycle) :
    ∃ f r d, s.startAll.stance
      = { s.stance with reference := some r, segState := f, allRunning := true
                        accum := List.replicate 2048 0, corr := { s.corr with dark := d } }
      ∧ r.scope = .all ∧ (∀ i, f i ≠ .blind) ∧ (∀ i j, f i ≠ .current → f j ≠ .current → i = j)
      ∧ (s.stance.Measured → d.length = 2048) := by
  have hask : ∀ u : State, ∃ r : Reference, r.scope = .all
      ∧ (State.requestReference { u with sched := { u.sched with
          allRunning := true, accum := List.replicate Config.columns 0 } } .all).stance
        = { u.stance with reference := some r, allRunning := true, accum := List.replicate 2048 0 } :=
    fun u => ⟨_, rfl, rfl⟩
  have hkeep : (∀ i, s.stance.scope ≠ some (.segment i)) → ∃ f r d,
      (State.requestReference { s with sched := { s.sched with
          allRunning := true, accum := List.replicate Config.columns 0 } } .all).stance
        = { s.stance with reference := some r, segState := f, allRunning := true
                          accum := List.replicate 2048 0, corr := { s.corr with dark := d } }
      ∧ r.scope = .all ∧ (∀ i, f i ≠ .blind) ∧ (∀ i j, f i ≠ .current → f j ≠ .current → i = j)
      ∧ (s.stance.Measured → d.length = 2048) := fun hscope => by
    obtain ⟨r, hr, e⟩ := hask s
    exact ⟨s.stance.segState, r, s.corr.dark, e, hr, hc.not_blind hscope, hc.one, fun h => h.1⟩
  unfold State.startAll
  dsimp only
  split
  · rename_i r hr
    split
    · rename_i i hs
      have hothers := others_current_of_segment hc hr hs
      obtain ⟨g, hg, e⟩ := truncateForAll_stance hr hlen hc hs r.taken
      obtain ⟨q, hq, e'⟩ := hask (s.truncateForAll i r.taken)
      rw [e] at e'
      exact ⟨_, q, _, e', hq, not_blind_of_update hothers hg, one_of_update hothers g,
        fun h => length_darkAfter h hr _⟩
    · rename_i hs
      exact hkeep fun i => by simp [Stance.scope, State.stance, hr, hs]
  · rename_i hr
    exact hkeep fun i => by simp [Stance.scope, State.stance, hr]

end Sys2Proof.Machine
end

section
/-! SUPPORT. What each command of the head port, the scheduler, the travel unit and the mode controller makes
of the node's stance. -/

namespace Sys2Proof.Machine

set_option Elab.async false

/-! ### Covering -/

/-- Out of INSPECTING strand-present and gate state take no part in covering. -/
theorem CoverLaw.of_not_inspecting {mode : Mode} {setup : Option Setup} {covering : Bool}
    {strand strand' : StrandPresent} {gate gate' : GateState} {gap : Option Int}
    (h : CoverLaw mode setup covering strand gate gap) (hm : mode ≠ .inspecting) :
    CoverLaw mode setup covering strand' gate' gap where
  setup_eq := h.setup_eq
  strand_of e := absurd e hm
  covering_eq := by
    rw [h.covering_eq, beq_false_of_ne hm]
    rfl
  ownGap_eq := h.ownGap_eq

/-- Between two modes of a configured node in which it does not cover. -/
theorem CoverLaw.of_modes {mode mode' : Mode} {setup : Option Setup} {covering : Bool}
    {strand : StrandPresent} {gate : GateState} {gap : Option Int}
    (h : CoverLaw mode setup covering strand gate gap) (hm : mode ≠ .inspecting)
    (hm' : mode' ≠ .inspecting) (hc : mode'.configured = mode.configured) :
    CoverLaw mode' setup covering strand gate gap where
  setup_eq := by rw [h.setup_eq, hc]
  strand_of e := absurd e hm'
  covering_eq := by
    rw [h.covering_eq, beq_false_of_ne hm, beq_false_of_ne hm']
  ownGap_eq := by rw [h.ownGap_eq, hc]

theorem gapAfterTest_isSome {s : State} (hgap : s.hz.ownGap.isSome = !s.ctl.covering) (v : Setup) :
    (s.gapAfterTest v).isSome = !s.isCovering := by
  unfold State.gapAfterTest
  split
  · rename_i h
    rw [hgap, h]
  · split
    · rename_i h
      rw [h]
      rfl
    · rename_i h
      rw [Bool.not_eq_true] at h
      rw [h]
      rfl

/-- The covering test brings covering and own GAP in line with mode, strand-present and gate state. -/
theorem coveringTest_stance (s : State) (v : Setup) (hset : s.stance.setup.isSome = true)
    (hconf : s.stance.mode.configured = true)
    (hstrand : s.stance.mode = .inspecting → s.stance.strand = .asserted)
    (hgap : s.stance.ownGap.isSome = !s.stance.covering) :
    ∃ c g, (s.coveringTest v).stance = { s.stance with covering := c, ownGap := g }
      ∧ CoverLaw s.stance.mode s.stance.setup c s.stance.strand s.stance.gate g :=
  ⟨s.isCovering, s.gapAfterTest v, (coveringTest_reporting s v).stance, {
    setup_eq := hset.trans hconf.symm
    strand_of := hstrand
    covering_eq := rfl
    ownGap_eq := by
      rw [gapAfterTest_isSome hgap, hconf]
      rfl }⟩

/-- In a configured mode the own GAP stands while the node is not covering. -/
theorem CoverLaw.gap_of_configured {mode : Mode} {setup : Option Setup} {covering : Bool}
    {strand : StrandPresent} {gate : GateState} {gap : Option Int}
    (h : CoverLaw mode setup covering strand gate gap) (hc : mode.configured = true) :
    gap.isSome = !covering := by
  rw [h.ownGap_eq, hc]
  rfl

/-! ### Travel unit -/

/-- Out of INSPECTING the travel unit moves as it will. -/
theorem travel_leads {s : State} (hm : s.ctl.mode ≠ .inspecting) (t : Travel) :
    Leads s { s with travel := t } :=
  ⟨fun h => { h with covered := h.covered.of_not_inspecting hm }, fun _ ht => { ht with }⟩

/-- A line may be asked for in INSPECTING. -/
theorem lineDue_stance (s : State) (v : Setup) :
    ∃ l, (s.lineDue v).stance = { s.stance with line := l }
      ∧ (s.isLineDue v = false → l = s.head.line) := by
  by_cases h : s.isLineDue v = true
  · obtain ⟨g, l, m, k, d, e⟩ := s.lineDue_footprint v
    exact ⟨l, by rw [e]; rfl, fun hn => absurd h (by rw [hn]; decide)⟩
  · rw [State.lineDue_of_not_due h]
    exact ⟨_, rfl, fun _ => rfl⟩

theorem lineDue_leads (s : State) (v : Setup) : Leads s (s.lineDue v) := by
  obtain ⟨l, e, hl⟩ := lineDue_stance s v
  refine .of_stance e (fun h => ?_) fun _ ht => ?_
  · refine { h with ports := { h.ports with line_of := fun hsome => ?_ } }
    cases hd : s.isLineDue v with
    | false =>
      rw [hl hd] at hsome
      exact h.ports.line_of hsome
    | true => exact ((s.isLineDue_iff v).mp hd).1
  · exact { ht with }

theorem raiseHighWater_stance (s : State) (v : Setup) : (s.raiseHighWater v).stance = s.stance := by
  rw [State.raiseHighWater_eq]
  rfl

theorem positionChanged_leads (s : State) : Leads s s.positionChanged := by
  unfold State.positionChanged
  split
  · exact .refl s
  · exact (lineDue_leads _ _).after (.of_eq (raiseHighWater_stance s _))

theorem moveCount_leads (s : State) (dir : Direction) (step : Int) :
    Leads s (s.moveCount dir step) := by
  have hturn : Leads s (s.turned step) := .of_eq rfl
  by_cases hc : s.countAfter step = s.travel.count
  · rw [State.moveCount_of_eq hc]
    exact .refl s
  · rw [State.moveCount_of_ne hc]
    refine Leads.report ?_ ((recomputeIfMoved_reporting _ s).after (markMove_reporting _ dir _))
    split
    · exact hturn
    · exact (positionChanged_leads _).after hturn

theorem takePair_leads (s : State) (a b : Bool) : Leads s (s.takePair a b) := by
  have hphase : Leads s (s.withPhase a b) := .of_eq rfl
  unfold State.takePair
  dsimp only
  split
  · exact .refl s
  · exact hphase.report ((Reporting.count _ _).after (.setFlag _ _))
  · exact (moveCount_leads _ _ _).after hphase
  · exact (moveCount_leads _ _ _).after hphase

/-! ### Entry to INSPECTING (R193) -/

theorem enterInspecting_leads {s : State} (hm : s.ctl.mode = .waiting ∨ s.ctl.mode = .referencing)
    (ha : s.sched.allRunning = false) (hstrand : s.travel.strand = .asserted) (v : Setup) :
    Leads s (s.enterInspecting v) := by
  have hconf : s.ctl.mode.configured = true := by
    obtain h | h := hm <;> rw [h] <;> rfl
  have hne : s.ctl.mode ≠ .headFault ∧ s.ctl.mode ≠ .inspecting := by
    obtain h | h := hm <;> rw [h] <;> decide
  refine .of_sound fun h => ?_
  obtain ⟨c, g, e, hcover⟩ := coveringTest_stance { s.setMode .inspecting with travel := { s.travel with
      lastLine := floorTo v.linePitch s.travel.highWater } } v
    (h.covered.setup_eq.trans hconf) rfl (fun _ => hstrand) (h.covered.gap_of_configured hconf)
  refine Leads.report ?_ (recompute_reporting _)
  refine .of_stance e (fun _ => ?_) fun _ ht => ?_
  · exact {
      running := h.running
      covered := hcover
      ports := {
        line_of := fun _ => rfl
        probe_of := fun hp => absurd (h.ports.probe_of hp) hne.1
        probeTimer_of := fun hp => absurd (h.ports.probeTimer_of hp) hne.1
        reference_of := fun _ => nofun }
      segs := h.segs
      cycle := h.cycle
      referencing := fun hall => absurd (ha.symm.trans hall) (by decide) }
  · exact { ht with busy := fun hb => absurd (ht.busy hb).1 hne.2 }

theorem takeRise_leads (s : State) : Leads s s.takeRise := by
  refine .of_sound fun h => ?_
  unfold State.takeRise
  split
  · exact .of_eq rfl
  · rename_i hclear
    have hne : s.ctl.mode ≠ .inspecting := fun hm => by
      have := h.covered.strand_of hm
      exact absurd (hclear.symm.trans this) (by decide)
    have hup : Leads s s.withStrand := travel_leads hne _
    dsimp only
    split
    · exact hup
    · split
      · rename_i hm
        have ha : s.sched.allRunning = false := by
          by_contra hall
          have := h.referencing (Bool.not_eq_false _ ▸ hall)
          exact absurd (hm.symm.trans this) (by decide)
        exact (enterInspecting_leads (s := s.withStrand) (.inl hm) ha rfl _).after hup
      · exact hup

/-- Without setup a node is in none of the configured modes. -/
theorem CoverLaw.not_configured {mode : Mode} {setup : Option Setup} {covering : Bool}
    {strand : StrandPresent} {gate : GateState} {gap : Option Int}
    (h : CoverLaw mode setup covering strand gate gap) (hs : setup = none) : mode ≠ .inspecting := by
  rintro rfl
  have := h.setup_eq
  rw [hs] at this
  exact absurd this (by decide)

theorem takeFall_leads (s : State) : Leads s s.takeFall := by
  refine .of_sound fun h => ?_
  unfold State.takeFall
  split
  · exact .refl s
  · split
    · rename_i hn
      exact travel_leads (h.covered.not_configured hn) _
    · exact .of_eq rfl

theorem takeGate_leads (s : State) (high : Bool) : Leads s (s.takeGate high) := by
  refine .of_sound fun h => ?_
  unfold State.takeGate
  dsimp only
  split
  · exact .refl s
  · split
    · rename_i hn
      exact travel_leads (h.covered.not_configured hn) _
    · rename_i v _
      split
      · rename_i hm
        have hconf : s.ctl.mode.configured = true := by rw [hm]; rfl
        refine Leads.report ?_ (recomputeIfMoved_reporting _ s)
        obtain ⟨l, el, -⟩ := lineDue_stance
          { s with travel := { s.travel with gate := gateOf s.ctl.setup high } } v
        obtain ⟨c, g, e, hcover⟩ := coveringTest_stance
          (State.lineDue { s with travel := { s.travel with gate := gateOf s.ctl.setup high } } v) v
          (by rw [el]; exact h.covered.setup_eq.trans hconf) (by rw [el]; exact hconf)
          (by rw [el]; exact h.covered.strand_of) (by rw [el]; exact h.covered.gap_of_configured hconf)
        rw [el] at e hcover
        refine .of_stance e (fun _ => ?_) fun _ ht => ?_
        · exact { h with covered := hcover, ports := { h.ports with line_of := fun _ => hm } }
        · exact { ht with }
      · rename_i hm
        exact travel_leads hm _

/-! ### Builds -/

/-- Every table has a value for each column. -/
def Corrector.Sized (c : Corrector) : Prop :=
  c.dark.length = 2048 ∧ c.gain.length = 2048 ∧ c.sums.length = 2048 ∧ c.samples.length = 2048

theorem Stance.Tables.sized {x : Stance} (h : x.Tables) : x.corr.Sized :=
  ⟨h.dark, h.gain, h.sums, h.samples⟩

theorem endBuild_sized {c : Corrector} (h : c.Sized) (b : BuildState) : (c.endBuild b).Sized :=
  ⟨h.1, h.2.1, List.length_replicate, List.length_replicate⟩

/-- The pixel means with the sample counts as integers. -/
theorem pixelMeans_eq (sums : List Int) (samples : List Nat) :
    pixelMeans sums samples = List.zipWith (fun x n => if n = 0 then none else some (x / n)) sums
      (samples.map fun n : Nat => (n : Int)) := by
  unfold pixelMeans
  congr 1
  induction samples with
  | nil => rfl
  | cons n samples ih =>
    rw [List.map_cons, ← ih]
    rfl

theorem length_pixelMeans (sums : List Int) (samples : List Nat) :
    (pixelMeans sums samples).length = min sums.length samples.length := by
  rw [pixelMeans_eq, List.length_zipWith, List.length_map]

theorem install_sized {c : Corrector} (h : c.Sized) (m : Int) :
    (c.install m).Sized ∧ (c.install m).build ≠ .busy := by
  unfold Corrector.install
  split
  · exact ⟨endBuild_sized h _, nofun⟩
  · obtain ⟨hd, hg, hsu, hsa⟩ := h
    refine ⟨⟨hd, ?_, List.length_replicate, List.length_replicate⟩, nofun⟩
    change (List.zipWith _ (pixelMeans c.sums c.samples) c.gain).length = 2048
    rw [List.length_zipWith, length_pixelMeans, hg, hsu, hsa]
    decide

/-- The tables hold on with another corrector of the right sizes, if its build is not BUSY. -/
theorem Stance.Tables.with_corr {x : Stance} (h : x.Tables) {k : Corrector} (hk : k.Sized)
    (hb : k.build = .busy → x.mode = .inspecting ∧ ∃ g ∈ k.target, k.lines < g) :
    Stance.Tables { x with corr := k } :=
  ⟨hk.1, hk.2.1, hk.2.2.1, hk.2.2.2, h.accum, hb⟩

theorem abortBuild_stance (s : State) :
    ∃ k, s.abortBuild.stance = { s.stance with corr := k } ∧ k.build ≠ .busy
      ∧ (s.stance.corr.Sized → k.Sized) := by
  unfold State.abortBuild
  split
  · exact ⟨_, rfl, nofun, fun h => endBuild_sized h _⟩
  · rename_i hb
    exact ⟨_, rfl, hb, id⟩

theorem length_addSums (blind : SegMask) (p : Nat) (raw dark : List Nat) (sums : List Int) :
    (addSums blind p raw dark sums).length = sums.length := by
  induction raw generalizing p dark sums with
  | nil => rfl
  | cons r raw ih =>
    cases dark with
    | nil => rfl
    | cons d dark =>
      cases sums with
      | nil => rfl
      | cons x sums => simp [addSums, ih]

theorem length_addSamples (blind : SegMask) (p : Nat) (samples : List Nat) :
    (addSamples blind p samples).length = samples.length := by
  induction samples generalizing p with
  | nil => rfl
  | cons n samples ih => simp [addSamples, ih]

theorem accumulate_sized {c : Corrector} (h : c.Sized) (blind : SegMask) (raw : List Nat) :
    (c.accumulate blind raw).Sized :=
  ⟨h.1, h.2.1, (length_addSums _ _ _ _ _).trans h.2.2.1, (length_addSamples _ _ _).trans h.2.2.2⟩

/-- A build that has reached its target ends; one that has not stays short of it. -/
theorem completeBuild_sized {s : State} (h : s.corr.Sized)
    (hb : s.corr.build = .busy → ∃ g ∈ s.corr.target, s.corr.lines ≤ g) :
    s.completeBuild.corr.Sized ∧ (s.completeBuild.corr.build = .busy →
      s.corr.build = .busy ∧ ∃ g ∈ s.completeBuild.corr.target, s.completeBuild.corr.lines < g) := by
  have hend : ∀ m, (s.corr.install m).Sized ∧ ((s.corr.install m).build = .busy →
      s.corr.build = .busy ∧ ∃ g ∈ (s.corr.install m).target, (s.corr.install m).lines < g) := fun m =>
    ⟨(install_sized h m).1, fun hbusy => absurd hbusy (install_sized h m).2⟩
  unfold State.completeBuild
  split
  · split
    · exact hend _
    · exact hend _
  · rename_i hn
    refine ⟨h, fun hbusy => ⟨hbusy, ?_⟩⟩
    obtain ⟨g, hg, hle⟩ := hb hbusy
    exact ⟨g, hg, lt_of_le_of_ne hle fun he => hn ⟨hbusy, by rw [he]; exact hg⟩⟩

theorem crowd_corr (s : State) (v : Setup) (p : Int) (crowded : Bool) :
    (s.crowd v p crowded).corr = s.corr :=
  congrArg Stance.corr (crowd_reporting s v p crowded).stance

/-- The corrector takes a line into a build, or not, and then looks for the build's end (R52, R53). -/
theorem correctLine_takes (s : State) (v : Setup) (line : LineInFlight) (raw : List (BitVec 12))
    (withheld : SegMask) : ∃ u : State, s.correctLine v line raw withheld = u.completeBuild
      ∧ (u.corr = s.corr ∨ (∃ blind values, u.corr = s.corr.accumulate blind values)) := by
  refine ⟨_, rfl, ?_⟩
  dsimp only
  rw [crowd_corr]
  split
  · exact .inr ⟨_, _, rfl⟩
  · exact .inl rfl

/-- One line at the corrector leaves a stance with another corrector, whose build is BUSY only if it was
and is still short of its target (R52, R53). -/
theorem correctLine_stance (s : State) (v : Setup) (line : LineInFlight) (raw : List (BitVec 12))
    (withheld : SegMask) :
    ∃ k, (s.correctLine v line raw withheld).stance = { s.stance with corr := k }
      ∧ (s.stance.Tables → k.Sized ∧ (k.build = .busy →
          s.corr.build = .busy ∧ ∃ g ∈ k.target, k.lines < g)) := by
  refine ⟨(s.correctLine v line raw withheld).corr, ?_, fun ht => ?_⟩
  · obtain ⟨c, a, k, n, d, e⟩ := s.correctLine_footprint v line raw withheld
    rw [e]
    rfl
  · have hshort : s.corr.build = .busy → ∃ g ∈ s.corr.target, s.corr.lines < g := fun hb => (ht.busy hb).2
    obtain ⟨u, e, hu⟩ := correctLine_takes s v line raw withheld
    rw [e]
    obtain hu | ⟨blind, values, hu⟩ := hu
    · have h := completeBuild_sized (s := u) (by rw [hu]; exact ht.sized) (fun hb => by
        rw [hu] at hb ⊢
        exact (hshort hb).imp fun g hg => ⟨hg.1, hg.2.le⟩)
      rwa [hu] at h
    · have h := completeBuild_sized (s := u) (by rw [hu]; exact accumulate_sized ht.sized _ _)
        (fun hb => by
          rw [hu] at hb ⊢
          exact hshort hb)
      rwa [hu] at h

end Sys2Proof.Machine
end

section
/-! SUPPORT. What strand end, head fault and recovery, the commands of the head port and of the scheduler,
and the frames from stations make of the node's stance. -/

namespace Sys2Proof.Machine

set_option Elab.async false

/-! ### Stances with and without a reference -/

/-- In REFERENCING with the all-segment reference outstanding. -/
theorem sound_of_all {x : Stance} {r : Reference} (hrun : x.resetting = none) (hcov : x.Covered)
    (hline : x.line = none) (hprobe : x.probe = none) (htimer : x.probeTimer = none)
    (hm : x.mode = .referencing) (hr : x.reference = some r) (hs : r.scope = .all)
    (hlen : x.segCount = 8) (ha : x.allRunning = true) (hb : ∀ i, x.segState i ≠ .blind)
    (hone : ∀ i j, x.segState i ≠ .current → x.segState j ≠ .current → i = j) : x.Sound where
  running := hrun
  covered := hcov
  ports := {
    line_of := by rw [hline]; exact nofun
    probe_of := by rw [hprobe]; exact nofun
    probeTimer_of := by rw [htimer]; exact nofun
    reference_of := fun _ => by rw [hm]; exact nofun }
  segs := hlen
  cycle := cycle_of_all hr hs ha hb hone
  referencing := fun _ => hm

theorem tables_of_reference {x : Stance} {r : Reference} (hr : x.reference = some r)
    (ha : x.accum = List.replicate r.scope.pixels 0) (hk : x.corr.Sized)
    (hb : x.corr.build = .busy → x.mode = .inspecting ∧ ∃ g ∈ x.corr.target, x.corr.lines < g) :
    x.Tables where
  dark := hk.1
  gain := hk.2.1
  sums := hk.2.2.1
  samples := hk.2.2.2
  accum q hq := by
    obtain rfl : r = q := Option.some.inj (hr.symm.trans hq)
    rw [ha, List.length_replicate]
  busy := hb

theorem Corrector.Sized.with_dark {c : Corrector} (h : c.Sized) {d : List Nat} (hd : d.length = 2048) :
    Corrector.Sized { c with dark := d } := ⟨hd, h.2⟩

/-- The reference outstanding goes on under another request, or with readouts more (R24, R25). -/
theorem Stance.Sound.with_reference {x : Stance} (h : x.Sound) {r q : Reference}
    (hr : x.reference = some r) (hs : q.scope = r.scope) (a : List Nat) :
    Stance.Sound { x with reference := some q, accum := a } := by
  have hscope : Stance.scope { x with reference := some q, accum := a } = x.scope := by
    simp [Stance.scope, hr, hs]
  exact { h with
    ports := { h.ports with reference_of := fun _ => h.ports.reference_of (by rw [hr]; rfl) }
    cycle := by
      have hc : CycleLaw x.segState x.allRunning x.scope := h.cycle
      rwa [← hscope] at hc }

theorem Stance.Tables.with_reference {x : Stance} (h : x.Tables) {r q : Reference}
    (hr : x.reference = some r) (hs : q.scope = r.scope) {a : List Nat}
    (ha : a.length = x.accum.length) : Stance.Tables { x with reference := some q, accum := a } :=
  { h with
    accum := fun p hp => by
      obtain rfl : q = p := Option.some.inj hp
      rw [ha, hs, h.accum r hr] }

/-- The reference is over, and no segment is left BLIND (R33 to R37). -/
theorem Stance.Sound.referenceOver {x : Stance} (h : x.Sound) {f : Fin 8 → SegState}
    (hb : ∀ i, f i ≠ .blind) (hone : ∀ i j, f i ≠ .current → f j ≠ .current → i = j) (d : List Nat) :
    (x.referenceOver f d).Sound :=
  { h with
    ports := { h.ports with reference_of := nofun }
    cycle := cycle_of_none rfl rfl hb hone
    referencing := nofun }

theorem Stance.Tables.referenceOver {x : Stance} (h : x.Tables) (f : Fin 8 → SegState) {d : List Nat}
    (hd : d.length = 2048) : (x.referenceOver f d).Tables :=
  { h with dark := hd, accum := nofun }

/-! ### Strand end (R195) -/

/-- Out of a mode that is not INSPECTING no build is BUSY. -/
theorem Stance.Tables.not_busy {x : Stance} (h : x.Tables) (hm : x.mode ≠ .inspecting) :
    x.corr.build ≠ .busy := fun hb => hm (h.busy hb).1

theorem strandEnd_leads {s : State} (hm : s.ctl.mode = .inspecting) (v : Setup) :
    Leads s (s.withoutStrand.strandEnd v) := by
  refine .of_sound fun h => ?_
  have hconf : s.ctl.mode.configured = true := by rw [hm]; rfl
  set closed := (s.withoutStrand.setMode .referencing).dropLine.closeAll v .strandEnd
  have e₁ : closed.stance
      = { s.stance with mode := .referencing, strand := .clear, line := none } :=
    (closeAll_reporting _ v _).stance
  obtain ⟨k, e₂, hidle, hk⟩ := abortBuild_stance closed
  rw [e₁] at e₂
  have hlen : closed.abortBuild.sched.segs.length = 8 := (congrArg Stance.segCount e₂).trans h.segs
  obtain ⟨f, r, d, e₃, hr, hb, hone, hd⟩ := startAll_stance hlen (by rw [e₂]; exact h.cycle)
  have hcorr : closed.abortBuild.corr = k := congrArg Stance.corr e₂
  rw [hcorr, e₂] at e₃
  rw [e₂] at hd
  obtain ⟨c, g, e₄, hcov⟩ := coveringTest_stance closed.abortBuild.startAll v
    (by rw [e₃]; exact h.covered.setup_eq.trans hconf) (by rw [e₃]; rfl) (by rw [e₃]; exact nofun)
    (by rw [e₃]; exact h.covered.gap_of_configured hconf)
  rw [e₃] at e₄ hcov
  have hsized : s.stance.Tables → k.Sized := fun ht =>
    hk (by rw [e₁]; exact ht.sized)
  refine Leads.report ?_ (recompute_reporting _)
  refine .of_stance e₄ (fun _ => ?_) fun _ ht => ?_
  · exact sound_of_all h.running hcov rfl (Option.not_isSome_iff_eq_none.mp fun hp => by
      exact absurd (hm.symm.trans (h.ports.probe_of hp)) (by decide))
      (Option.not_isSome_iff_eq_none.mp fun hp => by
      exact absurd (hm.symm.trans (h.ports.probeTimer_of hp)) (by decide)) rfl rfl hr h.segs rfl hb hone
  · exact tables_of_reference rfl (by rw [hr]; rfl) ((hsized ht).with_dark (hd ⟨(hsized ht).1, ht.accum⟩))
      (fun hbusy => absurd hbusy hidle)

theorem takeDropout_leads (s : State) : Leads s s.takeDropout := by
  refine .of_sound fun h => ?_
  unfold State.takeDropout
  split
  · dsimp only
    split
    · rename_i hn
      exact travel_leads (h.covered.not_configured hn) _
    · split
      · rename_i hm
        exact strandEnd_leads hm _
      · rename_i hm
        exact travel_leads hm _
  · exact .refl s

/-! ### Head fault and recovery (R25 to R27, R196) -/

theorem abandonNoted_stance (s : State) (v : Setup) :
    (s.abandonNoted v).stance = { s.stance with line := none } := by
  unfold State.abandonNoted
  split
  · rename_i hn
    rw [← hn]
    rfl
  · exact (noteLine_reporting _ v _).stance

theorem enterHeadFault_leads {s : State} (hm : s.ctl.mode.faults = true) (v : Setup) :
    Leads s (s.enterHeadFault v) := by
  refine .of_sound fun h => ?_
  have hconf : s.ctl.mode.configured = true := by
    revert hm
    cases s.ctl.mode <;> decide
  set noted := ((s.setFlag .headFault).setMode .headFault).abandonNoted v
  have e₁ : noted.stance = { s.stance with mode := .headFault, line := none } := abandonNoted_stance _ v
  have hlen : noted.sched.segs.length = 8 := (congrArg Stance.segCount e₁).trans h.segs
  obtain ⟨f, a, d, e₂, hb, hone, hd⟩ := truncateByFault_stance hlen (by rw [e₁]; exact h.cycle)
  have hcorr : noted.corr = s.corr := congrArg Stance.corr e₁
  rw [hcorr, e₁] at e₂
  rw [e₁] at hd
  set timed : State := { noted.truncateByFault with head := { noted.truncateByFault.head with
    probeTimer := some (noted.truncateByFault.nodeTime + Config.probePeriod) } }
  have e₃ : (timed.closeAll v .headFault).stance = { noted.truncateByFault.stance with
      probeTimer := some (noted.truncateByFault.nodeTime + Config.probePeriod) } :=
    (closeAll_reporting timed v _).stance
  rw [e₂] at e₃
  obtain ⟨k, e₄, hidle, hk⟩ := abortBuild_stance (timed.closeAll v .headFault)
  rw [e₃] at e₄
  set stopped := (timed.closeAll v .headFault).abortBuild
  obtain ⟨c, g, e₅, hcov⟩ := coveringTest_stance stopped v
    (by rw [e₄]; exact h.covered.setup_eq.trans hconf) (by rw [e₄]; rfl) (by rw [e₄]; exact nofun)
    (by rw [e₄]; exact h.covered.gap_of_configured hconf)
  rw [e₄] at e₅ hcov
  refine .of_stance e₅ (fun _ => ?_) fun _ ht => ?_
  · exact {
      running := h.running
      covered := hcov
      ports := {
        line_of := nofun
        probe_of := fun _ => rfl
        probeTimer_of := fun _ => rfl
        reference_of := nofun }
      segs := h.segs
      cycle := cycle_of_none rfl rfl hb hone
      referencing := nofun }
  · have hsized : k.Sized := hk (by rw [e₃]; exact ht.sized.with_dark (hd ht.measured))
    exact {
      dark := hsized.1
      gain := hsized.2.1
      sums := hsized.2.2.1
      samples := hsized.2.2.2
      accum := nofun
      busy := fun hbusy => absurd hbusy hidle }

theorem countTimeout_leads (s : State) (v : Setup) : Leads s (s.countTimeout v) := by
  have hcount : Leads s { s with head := { s.head with
      timeouts := min Config.faultTimeouts (s.head.timeouts + 1) } } := .of_eq rfl
  unfold State.countTimeout
  dsimp only
  split
  · rename_i hf
    have hm : s.ctl.mode.faults = true := hf.2
    exact Leads.after (enterHeadFault_leads (by exact hm) v) hcount
  · exact hcount

theorem recover_leads {s : State} (hm : s.ctl.mode = .headFault) : Leads s s.recover := by
  refine .of_sound fun h => ?_
  have e₁ : s.recovered.stance
      = { s.stance with mode := .referencing, probe := none, probeTimer := none } := rfl
  obtain ⟨f, r, d, e₂, hr, hb, hone, hd⟩ := startAll_stance (s := s.recovered) h.segs h.cycle
  rw [e₁] at e₂
  rw [recover_eq]
  refine Leads.report ?_ (recompute_reporting _)
  refine .of_stance e₂ (fun _ => ?_) fun _ ht => ?_
  · exact sound_of_all h.running
      (h.covered.of_modes (by show s.ctl.mode ≠ _; rw [hm]; exact nofun) nofun
        (by show _ = s.ctl.mode.configured; rw [hm]; rfl))
      (Option.not_isSome_iff_eq_none.mp fun hl => by
        exact absurd (hm.symm.trans (h.ports.line_of hl)) (by decide))
      rfl rfl rfl rfl hr h.segs rfl hb hone
  · have hidle := ht.not_busy (by show s.ctl.mode ≠ _; rw [hm]; exact nofun)
    exact tables_of_reference rfl (by rw [hr]; rfl) (ht.sized.with_dark (hd ht.measured))
      (fun hbusy => absurd hbusy hidle)

/-! ### Lines, stale answers and probes -/

theorem takeStale_leads (s : State) : Leads s s.takeStale := by
  unfold State.takeStale
  split
  · exact .refl s
  · exact .of_eq rfl

/-- Without the line in flight the stance is as sound as with it. -/
theorem dropLine_leads (s : State) : Leads s s.dropLine :=
  .of_stance rfl (fun h => { h with ports := { h.ports with line_of := nofun } }) fun _ ht => { ht with }

theorem correctLine_leads (s : State) (v : Setup) (line : LineInFlight) (raw : List (BitVec 12))
    (withheld : SegMask) : Leads s (s.correctLine v line raw withheld) := by
  obtain ⟨k, e, hk⟩ := correctLine_stance s v line raw withheld
  refine .of_stance e (fun h => { h with }) fun _ ht => ?_
  obtain ⟨hsized, hbusy⟩ := hk ht
  exact ht.with_corr hsized fun hb => ⟨(ht.busy (hbusy hb).1).1, (hbusy hb).2⟩

theorem takeLine_leads (s : State) (line : LineInFlight) (raw : List (BitVec 12))
    (withheld : SegMask) : Leads s (s.takeLine line raw withheld) := by
  have hdrop : Leads s s.dropLine.clearTimeouts :=
    Leads.after (t := s.dropLine) (.of_eq rfl) (dropLine_leads s)
  unfold State.takeLine
  dsimp only
  split
  · exact hdrop
  · split
    · exact ((correctLine_leads _ _ line raw withheld).after hdrop).report (recompute_reporting _)
    · exact hdrop.report (recompute_reporting _)

theorem takeArrival_leads (s : State) (tag : BitVec 8) (raw : List (BitVec 12))
    (withheld : SegMask) : Leads s (s.takeArrival tag raw withheld) := by
  refine .of_sound fun h => ?_
  unfold State.takeArrival
  split
  · exact takeLine_leads s _ raw withheld
  · split
    · rename_i hp
      refine recover_leads (h.ports.probe_of ?_)
      obtain ⟨p, hp, -⟩ := (Option.any_eq_true _ _).mp hp
      exact Option.isSome_of_mem hp
    · exact takeStale_leads s

theorem timeOutLine_leads (s : State) (v : Setup) (line : LineInFlight) :
    Leads s (s.timeOutLine v line) := by
  have hnote : Leads s ((s.dropLine.count .lineTimeout).noteLine v line.position) :=
    (dropLine_leads s).report ((noteLine_reporting _ v _).after (.count _ _))
  exact ((countTimeout_leads _ v).after hnote).report (recompute_reporting _)

theorem takeLineTimeout_leads (s : State) : Leads s s.takeLineTimeout := by
  unfold State.takeLineTimeout
  split
  · split
    · exact timeOutLine_leads s _ _
    · exact .refl s
  · exact .refl s

/-- Probe and probe timer change in HEAD-FAULT (R27). -/
theorem probe_leads {s t : State} {p : Option Probe} {due : Option Nat}
    (hm : s.stance.Sound → s.ctl.mode = .headFault)
    (e : t.stance = { s.stance with probe := p, probeTimer := due }) : Leads s t :=
  .of_stance e (fun h => { h with ports := { h.ports with
    probe_of := fun _ => hm h, probeTimer_of := fun _ => hm h } }) fun _ ht => { ht with }

theorem takeProbeTimer_leads (s : State) : Leads s s.takeProbeTimer := by
  unfold State.takeProbeTimer
  split
  · exact .refl s
  · rename_i due hd
    have hm : s.stance.Sound → s.ctl.mode = .headFault := fun h =>
      h.ports.probeTimer_of (by show s.head.probeTimer.isSome = true; rw [hd]; rfl)
    split
    · dsimp only
      split
      · exact probe_leads hm rfl
      · exact probe_leads hm rfl
    · exact .refl s

theorem takeProbeTimeout_leads (s : State) : Leads s s.takeProbeTimeout := by
  unfold State.takeProbeTimeout
  split
  · exact .of_stance (x := { s.stance with probe := none }) rfl
      (fun h => { h with ports := { h.ports with probe_of := nofun } }) fun _ ht => { ht with }
  · exact .refl s

end Sys2Proof.Machine
end

section
/-! SUPPORT. What the commands of the reference scheduler, of the tracer and of the stations, and resets
make of the node's stance; and that every step keeps modes and covering (O56), counters, gains and the
corrector's tables (O58). -/

namespace Sys2Proof.Machine

set_option Elab.async false

/-! ### Cycles (R30 to R32) -/

theorem startCycle_stance {s : State} (h : s.sched.segs.length = 8) (i : Fin 8) :
    ∃ r, r.scope = .segment i ∧ (s.startCycle i).stance
      = { s.stance with reference := some r, accum := List.replicate 256 0
                        segState := Function.update s.stance.segState i .blind } := by
  have e := stance_setSeg h i { s.seg i with state := .blind, postponed := 0 }
  refine ⟨{ scope := .segment i, tag := s.head.tag, taken := 0
            due := s.nodeTime + Config.headWait }, rfl, ?_⟩
  unfold State.startCycle
  exact congrArg (fun x : Stance => { x with
    reference := some { scope := .segment i, tag := s.head.tag, taken := 0
                        due := s.nodeTime + Config.headWait }
    accum := List.replicate 256 0 }) e

/-- A cycle may start in WAITING and INSPECTING, the other segments CURRENT. -/
theorem startCycle_leads {s : State} {i : Fin 8}
    (hm : s.ctl.mode = .waiting ∨ s.ctl.mode = .inspecting)
    (hothers : ∀ j, j ≠ i → s.stance.segState j = .current) : Leads s (s.startCycle i) := by
  refine .of_sound fun h => ?_
  have hne : s.ctl.mode ≠ .headFault ∧ s.ctl.mode ≠ .referencing := by
    obtain h | h := hm <;> rw [h] <;> decide
  have ha : s.stance.allRunning = false := by
    by_contra hall
    exact hne.2 (h.referencing (Bool.not_eq_false _ ▸ hall))
  obtain ⟨r, hr, e⟩ := startCycle_stance h.segs i
  refine .of_stance e (fun _ => ?_) fun _ ht => ?_
  · exact { h with
      ports := { h.ports with reference_of := fun _ => hne.1 }
      cycle := cycle_of_segment hothers rfl rfl hr ha }
  · exact { ht with
      accum := fun q hq => by
        obtain rfl : r = q := Option.some.inj hq
        rw [hr]
        exact List.length_replicate }

theorem fallsDue_stance {s : State} (h : s.sched.segs.length = 8) :
    s.fallsDue.stance = { s.stance with
      segState := Function.update s.stance.segState s.sched.pointer .due } :=
  stance_setSeg h s.sched.pointer { s.seg s.sched.pointer with state := .due, postponed := 0 }

theorem seg_current {s : State} (h : ∀ g ∈ s.sched.segs, g.state = .current) (i : Fin 8) :
    s.stance.segState i = .current := by
  show (s.sched.segs.getD i.val {}).state = .current
  rw [List.getD_eq_getElem?_getD]
  cases hg : s.sched.segs[i.val]? with
  | none => rfl
  | some g => exact h g (List.mem_of_getElem? hg)

/-- A segment falls DUE where all are CURRENT. -/
theorem fallsDue_leads {s : State} (hc : ∀ i, s.stance.segState i = .current) :
    Leads s s.fallsDue := by
  refine .of_sound fun h => ?_
  refine .of_stance (fallsDue_stance h.segs) (fun _ => ?_) fun _ ht => { ht with }
  have hnone : ∀ i, s.stance.scope ≠ some (.segment i) := fun i hs => by
    have hb := (h.cycle.blind i).mpr hs
    rw [hc i] at hb
    exact nomatch hb
  exact { h with
    cycle := {
      one := one_of_update (fun j _ => hc j) _
      all := h.cycle.all
      blind := fun i => iff_of_false (not_blind_of_update (fun j _ => hc j) (by decide) i) (hnone i) } }

theorem startOnDue_leads {s : State} {i : Fin 8}
    (hothers : ∀ j, j ≠ i → s.stance.segState j = .current) : Leads s (s.startOnDue i) := by
  unfold State.startOnDue
  split
  · rename_i hm
    exact startCycle_leads (.inl hm) hothers
  · rename_i hm
    split
    · exact .refl s
    · exact startCycle_leads (.inr hm) hothers
  · exact .refl s

theorem dueTest_leads (s : State) : Leads s s.dueTest := by
  refine .of_sound fun h => ?_
  by_cases hn : s.sched.allRunning = true ∨ s.ctl.mode = .headFault ∨ s.sched.ticks = 0
      ∨ ∃ g ∈ s.sched.segs, g.state ≠ .current
  · rw [dueTest_of_not_ready hn]
    exact .refl s
  · push Not at hn
    obtain ⟨ha, hm, ht, hc⟩ := hn
    rw [dueTest_of_ready (by simpa using ha) hm hc (Nat.one_le_iff_ne_zero.mpr ht)]
    refine Leads.after (startOnDue_leads fun j hj => ?_) (fallsDue_leads (seg_current hc))
    rw [fallsDue_stance h.segs]
    exact (Function.update_of_ne hj _ _).trans (seg_current hc j)

theorem takeTick_leads (s : State) : Leads s s.takeTick := by
  unfold State.takeTick
  split
  · split
    · exact Leads.after (dueTest_leads _) (.of_eq rfl)
    · exact .refl s
  · exact .refl s

theorem lineBoundary_leads (s : State) (v : Setup) : Leads s (s.lineBoundary v) := by
  refine .of_sound fun h => ?_
  unfold State.lineBoundary
  split
  · exact .refl s
  · rename_i i hd
    have hdue : (s.seg i).state = .due := by simpa using List.find?_some hd
    split
    · rename_i hm
      split
      · refine .of_eq ?_
        rw [stance_setSeg h.segs]
        exact congrArg (fun f => { s.stance with segState := f }) (Function.update_eq_self i _)
      · refine startCycle_leads (.inr hm) fun j hj => ?_
        by_contra hne
        exact hj (h.cycle.one j i hne (hdue.trans_ne (by decide)))
    · exact .refl s

theorem takeProcessed_leads (s : State) : Leads s s.takeProcessed := by
  unfold State.takeProcessed
  split
  · rename_i line rest v _ _
    have hrest : Reporting s { s with tracer := { s.tracer with awaiting := rest } } := .of_blocks
    dsimp only
    split
    · exact ((recompute_reporting _).after ((discardLine_reporting _ v _).after hrest)).leads
    · exact (lineBoundary_leads _ v).after
        ((recompute_reporting _).after ((traceLine_reporting _ v _).after hrest)).leads
  · exact .refl s

/-! ### The end of a reference (R33 to R37, R193) -/

theorem truncateCycle_leads {s : State} {r : Reference} (hr : s.head.reference = some r) {i : Fin 8}
    (hs : r.scope = .segment i) (n : Nat) : Leads s (s.truncateCycle i n) := by
  refine .of_sound fun h => ?_
  have hothers := others_current_of_segment h.cycle hr hs
  exact .of_stance (truncateCycle_stance hr h.segs h.cycle hs n)
    (fun _ => h.referenceOver (not_blind_of_update hothers (by decide)) (one_of_update hothers _) _)
    fun _ ht => ht.referenceOver _ (length_darkAfter ht.measured hr _)

/-- In REFERENCING, the all-segment reference over, the node goes on to INSPECTING or WAITING (R193). -/
theorem referenceDone_leads {s : State} (hm : s.ctl.mode = .referencing)
    (ha : s.sched.allRunning = false) (v : Setup) : Leads s (s.referenceDone v) := by
  unfold State.referenceDone
  split
  · rename_i hstrand
    exact enterInspecting_leads (.inr hm) ha hstrand v
  · have hne : s.ctl.mode ≠ .inspecting ∧ s.ctl.mode ≠ .headFault := by rw [hm]; decide
    refine Leads.report ?_ (recompute_reporting _)
    refine .of_stance (x := { s.stance with mode := .waiting }) rfl (fun h => ?_) fun _ ht => ?_
    · exact { h with
        covered := h.covered.of_modes hne.1 nofun (by show _ = s.ctl.mode.configured; rw [hm]; rfl)
        ports := {
          line_of := fun hl => absurd (h.ports.line_of hl) hne.1
          probe_of := fun hp => absurd (h.ports.probe_of hp) hne.2
          probeTimer_of := fun hp => absurd (h.ports.probeTimer_of hp) hne.2
          reference_of := fun _ => nofun }
        referencing := fun hall => absurd (ha.symm.trans hall) (by decide) }
    · exact { ht with busy := fun hb => absurd (ht.busy hb).1 hne.1 }

/-- A cycle with its last readout: its means written, its segment CURRENT (R34). -/
theorem cycleOver_stance {s : State} {r : Reference} (hr : s.head.reference = some r) {i : Fin 8}
    (hs : r.scope = .segment i) (h : s.stance.Sound) :
    (State.renewSeg (State.endReference { s with head := { s.head with reference := none } }
        (.segment i) Config.fullReadouts) i).stance
      = s.stance.referenceOver (Function.update s.stance.segState i .current)
          (s.stance.darkAfter r.scope Config.fullReadouts) := by
  have ha := not_allRunning_of_segment h.cycle hr hs
  have e := stance_setSeg (s := State.endReference { s with head := { s.head with reference := none } }
    (.segment i) Config.fullReadouts) h.segs i
    { state := .current, lastReference := some s.nodeTime, postponed := 0 }
  unfold Stance.referenceOver
  rw [← ha, hs]
  exact e

/-- An all-segment reference with its last readout: its means written, every segment CURRENT (R36). -/
theorem allOver_stance {s : State} {r : Reference} (hs : r.scope = .all) :
    (State.allCurrent (State.endReference { s with head := { s.head with reference := none } }
        .all Config.fullReadouts) true).stance
      = s.stance.referenceOver (fun _ => .current)
          (s.stance.darkAfter r.scope Config.fullReadouts) := by
  rw [allCurrent_stance, hs]
  rfl

theorem referenceFull_leads {s : State} {r : Reference} (hr : s.head.reference = some r) :
    Leads s (s.referenceFull r.scope) := by
  refine .of_sound fun h => ?_
  unfold State.referenceFull
  dsimp only
  split
  · rename_i i hs
    have hothers := others_current_of_segment h.cycle hr hs
    refine (dueTest_leads _).after ?_
    exact .of_stance (cycleOver_stance hr hs h)
      (fun _ => h.referenceOver (not_blind_of_update hothers (by decide)) (one_of_update hothers _) _)
      fun _ ht => ht.referenceOver _ (length_darkAfter ht.measured hr _)
  · rename_i hs
    have hm : s.ctl.mode = .referencing := h.referencing (h.cycle.all.mpr (by
      simp [Stance.scope, State.stance, hr, hs]))
    have hover : ∀ t : State, t.stance = s.stance.referenceOver (fun _ => .current)
        (s.stance.darkAfter r.scope Config.fullReadouts) → Leads s t := fun t e =>
      .of_stance e
        (fun _ => h.referenceOver (fun _ => by decide) (fun _ _ hne => absurd rfl hne) _)
        fun _ ht => ht.referenceOver _ (length_darkAfter ht.measured hr _)
    split
    · exact hover _ (allOver_stance hs)
    · exact Leads.after (referenceDone_leads (by exact hm) rfl _) (hover _ (allOver_stance hs))

/-! ### Readouts (R24, R25) -/

theorem length_addReadout (sums raw : List Nat) : (addReadout sums raw).length = sums.length := by
  induction sums generalizing raw with
  | nil => cases raw <;> rfl
  | cons x sums ih =>
    cases raw with
    | nil => rfl
    | cons r raw => simp [addReadout, ih]

theorem withReadout_leads {s : State} {r : Reference} (hr : s.head.reference = some r)
    (raw : List (BitVec 12)) : Leads s (s.withReadout r raw) := by
  set q : Reference := { r with taken := r.taken + 1, due := s.nodeTime + Config.headWait }
  exact .of_stance (x := { s.stance with
      reference := some q, accum := addReadout s.stance.accum (raw.map BitVec.toNat) }) rfl
    (fun h => h.with_reference (q := q) hr rfl _) fun _ ht =>
      ht.with_reference (q := q) hr rfl (length_addReadout _ _)

theorem takeReadout_leads {s : State} {r : Reference} (hr : s.head.reference = some r)
    (raw : List (BitVec 12)) : Leads s (s.takeReadout r raw) := by
  have hread := withReadout_leads hr raw
  unfold State.takeReadout
  dsimp only
  split
  · exact Leads.after (referenceFull_leads (s := s.withReadout r raw)
      (r := { r with taken := r.taken + 1, due := s.nodeTime + Config.headWait }) rfl) hread
  · exact hread

theorem takeReadoutTag_leads (s : State) (tag : BitVec 8) (raw : List (BitVec 12)) :
    Leads s (s.takeReadoutTag tag raw) := by
  unfold State.takeReadoutTag
  split
  · rename_i r hr
    exact takeReadout_leads (Option.filter_eq_some_iff.mp hr).1 raw
  · exact takeStale_leads s

theorem renewRequest_leads {s : State} {r : Reference} (hr : s.head.reference = some r)
    (hs : r.scope = .all) (n : Nat) : Leads s (s.renewRequest n) :=
  .of_stance (x := { s.stance with
      reference := some { scope := .all, tag := s.head.tag, taken := n
                          due := s.nodeTime + Config.headWait }
      accum := s.stance.accum }) rfl
    (fun h => h.with_reference hr hs.symm _) fun _ ht => ht.with_reference hr hs.symm rfl

theorem timeOutReadout_leads {s : State} {r : Reference} (hr : s.head.reference = some r)
    (v : Setup) : Leads s (s.timeOutReadout v r) := by
  have hcount : Leads s (s.count .lineTimeout) := (Reporting.count s _).leads
  unfold State.timeOutReadout
  dsimp only
  split
  · rename_i i hs
    have hcut := (countTimeout_leads _ v).after
      ((truncateCycle_leads (s := s.count .lineTimeout) hr hs r.taken).after hcount)
    split
    · exact hcut.report (recompute_reporting _)
    · exact (dueTest_leads _).after hcut
  · rename_i hs
    have hask := (countTimeout_leads _ v).after
      ((renewRequest_leads (s := s.count .lineTimeout) hr hs r.taken).after hcount)
    split
    · exact hask.report (recompute_reporting _)
    · exact hask

theorem takeReadoutTimeout_leads (s : State) : Leads s s.takeReadoutTimeout := by
  unfold State.takeReadoutTimeout
  split
  · rename_i hr _
    split
    · exact timeOutReadout_leads hr _
    · exact .refl s
  · exact .refl s

/-! ### Frames from stations (R51, R191, R202) -/

/-- A frame's hand-off leads on where the qualification lets it pass. -/
theorem receive_leads {hand : FrameHead → List Byte → State → State} {c : FrameClass} (f : RxFrame)
    (s : State) (hh : ∀ h body u, u.stance = s.stance → formOk c h body = true →
      s.stateOk c = true → Leads u (hand h body u)) : Leads s (s.receive c f hand) := by
  obtain h | ⟨h, body, hq, e⟩ := receive_reporting_or_hand s c f hand
  · exact h.leads
  · rw [e]
    obtain ⟨hform, hstate⟩ := State.qualify_passed hq
    have hover := frameOver_reporting s f
    exact (hh h body _ hover.stance hform hstate).after hover.leads

/-- A build is accepted in INSPECTING with a target of 16 lines at least (R51). -/
theorem acceptBuild_leads {s : State} (hm : s.ctl.mode = .inspecting) {g : Nat} (hg : 0 < g) :
    Leads s (s.acceptBuild g) :=
  .of_stance rfl (fun h => { h with }) fun _ ht =>
    ht.with_corr ⟨ht.dark, ht.gain, List.length_replicate, List.length_replicate⟩
      fun _ => ⟨hm, g, rfl, hg⟩

theorem takeBuildFrame_leads (f : RxFrame) (s : State) :
    Leads s (s.receive .build f State.takeBuildFrame) := by
  refine receive_leads f s fun h body u hu hform hstate => ?_
  have hm : s.ctl.mode = .inspecting := by
    simp only [State.stateOk, Bool.and_eq_true, beq_iff_eq] at hstate
    exact hstate.1
  have hg : 0 < fieldAt body 0 1 := by
    simp only [formOk, FrameClass.bodyOk, Bool.and_eq_true, within, decide_eq_true_eq] at hform
    omega
  exact acceptBuild_leads ((congrArg Stance.mode hu).trans hm) hg

theorem takeStatusReqFrame_leads (h : FrameHead) (body : List Byte) (s : State) :
    Leads s (State.takeStatusReqFrame h body s) := by
  have hf := (handFrame_reporting s (s.statusFrame h.sender)).leads
  unfold State.takeStatusReqFrame
  split
  · exact .refl s
  · dsimp only
    split
    · exact Leads.after (t := s.handFrame (s.statusFrame h.sender)) (.of_eq rfl) hf
    · exact hf

theorem openOwnGap_stance (s : State) (v : Setup) :
    (s.openOwnGap v).stance = { s.stance with ownGap := some (s.frontier v) } :=
  (openOwnGap_reporting s v).stance

/-- What the horizon unit makes of the stance at an accepted SETUP: the own GAP stands (R121, R192). -/
theorem setupHorizon_stance (s : State) (v : Setup) :
    ∃ gap, (s.setupHorizon v).stance = { s.stance with ownGap := some gap } := by
  unfold State.setupHorizon
  dsimp only
  set t := State.recomputeHorizon { s with hz := { s.hz with ownClearTo := s.newClearTo v } } v
  have e : t.stance = s.stance := (recomputeHorizon_reporting _ v).stance
  rw [← e]
  exact ⟨_, openOwnGap_stance { t with billet := { t.billet with floor := some t.hz.horizon } } v⟩

/-- At an UNCONFIGURED node an accepted SETUP leads to REFERENCING (R191, R192). -/
theorem acceptSetup_leads {s : State} (hm : s.ctl.mode = .unconfigured) (v : Setup) :
    Leads s (s.acceptSetup v) := by
  refine .of_sound fun h => ?_
  have hne : s.ctl.mode ≠ .inspecting := by rw [hm]; decide
  set taken := (State.setupTravel { s with ctl := { s.ctl with
    setup := some v, mode := .referencing, announceTimer := none, covering := false } } v).setupBlocks v
  obtain ⟨gap, e⟩ := setupHorizon_stance taken v
  set announced := (taken.setupHorizon v).handFrame (taken.setupHorizon v).announce
  replace e : announced.stance = { taken.stance with ownGap := some gap } :=
    (handFrame_reporting _ _).stance.trans e
  obtain ⟨f, r, d, e', hr, hb, hone, hd⟩ := startAll_stance (s := announced)
    ((congrArg Stance.segCount e).trans h.segs) (by rw [e]; exact h.cycle)
  have hcorr : announced.corr = s.corr.endBuild s.corr.build := congrArg Stance.corr e
  rw [hcorr, e] at e'
  rw [e] at hd
  refine .of_stance e' (fun _ => ?_) fun _ ht => ?_
  · refine sound_of_all h.running ?_ rfl rfl rfl rfl rfl hr h.segs rfl hb hone
    exact { setup_eq := rfl, strand_of := nofun, covering_eq := rfl, ownGap_eq := rfl }
  · exact tables_of_reference rfl (by rw [hr]; rfl)
      ((endBuild_sized ht.sized _).with_dark (hd ht.measured))
      (fun hbusy => absurd hbusy (ht.not_busy hne))

theorem takeSetupFrame_leads (f : RxFrame) (s : State) :
    Leads s (s.receive .setup f State.takeSetupFrame) := by
  refine receive_leads f s fun h body u hu _ hstate => ?_
  have hm : s.ctl.mode = .unconfigured := by simpa [State.stateOk] using hstate
  exact acceptSetup_leads ((congrArg Stance.mode hu).trans hm) _

/-! ### The invariants of a step -/

/-- From `s` to `t` the invariant of the modes is kept, and with it that of the corrector. -/
structure KeepsModes (s t : State) : Prop where
  modes : ModesInv s → ModesInv t
  tables : ModesInv s → CorrectorInv s → CorrectorInv t

theorem KeepsModes.of_eq {s t : State} (e : t.stance = s.stance) : KeepsModes s t where
  modes h := h.of_stance e
  tables _ h := (correctorInv_iff t).mpr (by rw [e]; exact (correctorInv_iff s).mp h)

theorem KeepsModes.after {s t u : State} (h : KeepsModes t u) (k : KeepsModes s t) : KeepsModes s u :=
  ⟨h.modes ∘ k.modes, fun hs ht => h.tables (k.modes hs) (k.tables hs ht)⟩

theorem KeepsModes.of_leads {s t : State} (hr : s.resetting = none) (h : Leads s t) :
    KeepsModes s t where
  modes hs := by
    have ht := h.sound ((modesInv_iff_sound hr).mp hs)
    exact (modesInv_iff_sound ht.running).mpr ht
  tables hs hc := (correctorInv_iff t).mpr
    (h.tables ((modesInv_iff_sound hr).mp hs) ((correctorInv_iff s).mp hc))

/-- Outstanding exchanges are gone in a reset; the laws of the segments rest until its end (R199). -/
theorem beginReset_keepsModes (s : State) (cause : ResetCause) :
    KeepsModes s (s.beginReset cause) where
  modes := fun ⟨hcov, ⟨_, _, htimer, _⟩, hsegs, _⟩ =>
    ⟨hcov, ⟨nofun, nofun, htimer, nofun⟩, hsegs, nofun⟩
  tables := fun _ ⟨hdark, hgain, hsums, hsamples, _, hbusy⟩ =>
    ⟨hdark, hgain, hsums, hsamples, nofun, hbusy⟩

theorem resetBlocks_modes (s : State) (p : Straps) (cause : ResetCause) :
    ModesInv (s.resetBlocks p cause) := by
  have hmode : (s.resetBlocks p cause).ctl.mode = .unstrapped
      ∨ (s.resetBlocks p cause).ctl.mode = .unconfigured := by
    by_cases h : strapId p = 0
    · exact .inl (if_pos h)
    · exact .inr (if_neg h)
  have hcur : ∀ i : Fin 8, ((s.resetBlocks p cause).seg i).state = .current := by
    intro i
    exact seg_current (s := s.resetBlocks p cause) (fun g hg => by
      rw [List.eq_of_mem_replicate hg]) i
  refine ⟨⟨?_, ?_, ?_, ?_⟩, ⟨nofun, nofun, nofun, nofun⟩, rfl, fun _ => ⟨?_, ?_, nofun, ?_⟩⟩
  · obtain h | h := hmode <;> rw [h] <;> rfl
  · intro h
    obtain h' | h' := hmode <;> exact absurd (h'.symm.trans h) (by decide)
  · refine (State.isCovering_of_not_inspecting ?_).symm
    obtain h | h := hmode <;> rw [h] <;> decide
  · obtain h | h := hmode <;> rw [h] <;> rfl
  · exact fun i _ hne => absurd (hcur i) hne
  · exact ⟨nofun, nofun⟩
  · exact fun i => ⟨fun hb => absurd ((hcur i).symm.trans hb) (by decide), nofun⟩

theorem resetBlocks_tables (s : State) (p : Straps) (cause : ResetCause) :
    CorrectorInv (s.resetBlocks p cause) :=
  ⟨List.length_replicate, List.length_replicate, List.length_replicate, List.length_replicate, nofun,
    nofun⟩

theorem endReset_keepsModes (s : State) (p : Straps) (cause : ResetCause) :
    KeepsModes s (s.endReset p cause) := by
  have hblocks : KeepsModes s (s.resetBlocks p cause) :=
    ⟨fun _ => resetBlocks_modes s p cause, fun _ _ => resetBlocks_tables s p cause⟩
  unfold State.endReset
  dsimp only
  split
  · exact hblocks
  · exact (KeepsModes.of_eq (handFrame_reporting _ _).stance).after hblocks

theorem event_keepsModes {f : State → State} (hf : ∀ s, Leads s (f s)) {dt : Nat} {s t : State}
    (h : event dt f s = .next t) : KeepsModes s t := by
  obtain rfl | ⟨hr, rfl⟩ := event_cases h
  · exact .of_eq rfl
  · exact .of_leads hr ((hf _).after (.of_eq rfl))

theorem inputEvent_keepsModes {set : Pins → Pins} {f : State → State} (hf : ∀ s, Leads s (f s))
    {dt : Nat} {s t : State} (h : inputEvent dt set f s = .next t) : KeepsModes s t := by
  obtain rfl | ⟨hr, rfl⟩ := inputEvent_cases h
  · exact .of_eq rfl
  · exact .of_leads hr ((hf _).after (.of_eq rfl))

theorem exec_keepsModes {c : Instr} {s t : State} (h : exec c s = .next t) : KeepsModes s t := by
  cases hc : Instr.onlyReports c with
  | true => exact .of_eq (exec_reporting hc h).stance
  | false =>
    cases c with
    | encoderTransition dt a b =>
      rw [exec_encoderTransition] at h
      exact inputEvent_keepsModes (takePair_leads · a b) h
    | strandRise dt =>
      rw [exec_strandRise] at h
      refine inputEvent_keepsModes (fun u => ?_) h
      split
      · exact .refl u
      · exact takeRise_leads u
    | strandFall dt =>
      rw [exec_strandFall] at h
      refine inputEvent_keepsModes (fun u => ?_) h
      split
      · exact takeFall_leads u
      · exact .refl u
    | gateChange dt high =>
      rw [exec_gateChange] at h
      exact inputEvent_keepsModes (takeGate_leads · high) h
    | dropoutTimerExpiry dt => exact event_keepsModes takeDropout_leads h
    | lineArrival dt tag raw w => exact event_keepsModes (takeArrival_leads · tag raw w) h
    | lineTimeout dt => exact event_keepsModes takeLineTimeout_leads h
    | referenceReadout dt tag raw => exact event_keepsModes (takeReadoutTag_leads · tag raw) h
    | readoutTimeout dt => exact event_keepsModes takeReadoutTimeout_leads h
    | probeTimerExpiry dt => exact event_keepsModes takeProbeTimer_leads h
    | probeTimeout dt => exact event_keepsModes takeProbeTimeout_leads h
    | probeArrival dt tag raw w => exact event_keepsModes (takeArrival_leads · tag raw w) h
    | tick dt => exact event_keepsModes takeTick_leads h
    | processedLine dt => exact event_keepsModes takeProcessed_leads h
    | setupFrame dt f => exact event_keepsModes (takeSetupFrame_leads f) h
    | buildFrame dt f => exact event_keepsModes (takeBuildFrame_leads f) h
    | statusReqFrame dt f =>
      exact event_keepsModes (fun u => receive_leads f u
        (hand := State.takeStatusReqFrame) fun h body w _ _ _ => takeStatusReqFrame_leads h body w) h
    | powerOnReset dt =>
      injection h with h
      exact h ▸ (beginReset_keepsModes _ _).after (.of_eq rfl)
    | pinReset dt =>
      injection h with h
      exact h ▸ (beginReset_keepsModes _ _).after (.of_eq rfl)
    | resetEnd dt p =>
      obtain ⟨-, rfl⟩ | ⟨cause, -, rfl⟩ := resetEnd_cases h
      · exact .of_eq rfl
      · exact endReset_keepsModes s p cause
    | _ => exact nomatch hc

theorem step_keepsModes {s t : State} (h : step s = .next t) : KeepsModes s t :=
  step_of_exec (fun _ => .of_eq rfl) exec_keepsModes (fun _ k => k.after (.of_eq rfl)) h

/-- Settles O56: outside a reset every command leads from a sound stance to a sound one, and the end of a
reset gives one outright. -/
theorem modeAndCoveringAreKept : Obligations.ModeAndCoveringAreKept := fun _ _ hs h =>
  (step_keepsModes h).modes hs

/-- Settles O58. -/
theorem countersAndGainsStayInRange : Obligations.CountersAndGainsStayInRange :=
  ⟨fun _ _ hs h => (step_keeps h).counters hs, fun _ _ hs h => (step_keeps h).gains hs,
    fun _ _ hs hc h => (step_keepsModes h).tables hs hc⟩

end Sys2Proof.Machine
end

section
/-! SUPPORT. One line at the corrector (O13): raw values, sums and samples column by column, the gains of a
build that completes, and what is handed on to the tracer. -/

namespace Sys2Proof.Machine

set_option Elab.async false

/-! ### Lists by their entries -/

theorem eq_map_getD_range {α : Type*} {l : List α} {n : Nat} (h : l.length = n) (d : α) :
    l = (List.range n).map fun p => l.getD p d := by
  subst h
  refine List.ext_getElem (by simp) fun i h₁ h₂ => ?_
  simp [List.getElem?_eq_getElem h₁]

/-- A list is given by its length and its entries. -/
theorem eq_map_range {α : Type*} {l : List α} {n : Nat} (h : l.length = n) (d : α) {f : Nat → α}
    (hf : ∀ p < n, l.getD p d = f p) : l = (List.range n).map f :=
  (eq_map_getD_range h d).trans (List.map_congr_left fun p hp => hf p (List.mem_range.mp hp))

/-! ### Sums and samples (R52) -/

theorem length_rawValues (n : Nat) (raw : List (BitVec 12)) : (rawValues n raw).length = n := by
  simp only [rawValues, List.length_append, List.length_map, List.length_take, List.length_replicate]
  omega

theorem rawValues_getD {n p : Nat} (hp : p < n) (raw : List (BitVec 12)) :
    (rawValues n raw).getD p 0 = (raw.getD p 0).toNat := by
  unfold rawValues
  dsimp only
  by_cases h : p < raw.length
  · rw [List.getD_append _ _ _ _ (by simp; omega)]
    simp [hp, List.getElem?_eq_getElem h]
  · have hlt : p - min n raw.length < n - min n raw.length := by omega
    rw [List.getD_append_right _ _ _ _ (by simp; omega)]
    simp [List.getElem?_eq_none (not_lt.mp h), hlt]

theorem addSums_getD {blind : SegMask} {raw dark : List Nat} {sums : List Int}
    (hr : raw.length = sums.length) (hd : dark.length = sums.length) (q : Nat) {p : Nat}
    (hp : p < sums.length) :
    (addSums blind q raw dark sums).getD p 0 = sums.getD p 0
      + if blind.getLsbD ((q + p) / 256) then 0 else (raw.getD p 0 : Int) - dark.getD p 0 := by
  induction sums generalizing raw dark q p with
  | nil => exact absurd hp (Nat.not_lt_zero _)
  | cons x sums ih =>
    match raw, dark, hr, hd with
    | r :: raw, d :: dark, hr, hd =>
      cases p with
      | zero =>
        by_cases hb : blind.getLsbD (q / 256) = true
        · have hb' : SegMask.has blind (segOf q) = true := hb
          simp [addSums, hb, hb']
        · have hb' : ¬ SegMask.has blind (segOf q) = true := hb
          simp [addSums, hb, hb']
      | succ p =>
        have hq : q + (p + 1) = q + 1 + p := by omega
        rw [hq]
        exact ih (Nat.succ.inj hr) (Nat.succ.inj hd) (q + 1) (Nat.lt_of_succ_lt_succ hp)

theorem addSamples_getD (blind : SegMask) {samples : List Nat} (q : Nat) {p : Nat}
    (hp : p < samples.length) :
    (addSamples blind q samples).getD p 0 = samples.getD p 0
      + if blind.getLsbD ((q + p) / 256) then 0 else 1 := by
  induction samples generalizing q p with
  | nil => exact absurd hp (Nat.not_lt_zero _)
  | cons n samples ih =>
    cases p with
    | zero =>
      by_cases hb : blind.getLsbD (q / 256) = true
      · have hb' : SegMask.has blind (segOf q) = true := hb
        simp [addSamples, hb, hb']
      · have hb' : ¬ SegMask.has blind (segOf q) = true := hb
        simp [addSamples, hb, hb']
    | succ p =>
      have hq : q + (p + 1) = q + 1 + p := by omega
      rw [hq]
      exact ih (q + 1) (Nat.lt_of_succ_lt_succ hp)

section
variable {c : Corrector} (hc : c.Sized) {blind : SegMask} {raw : List (BitVec 12)}
  {sum : Nat → Int} {samples : Nat → Nat}
  (hsum : ∀ p, sum p = c.sums.getD p 0 + if blind.getLsbD (p / 256) then 0
    else ((raw.getD p 0).toNat : Int) - c.dark.getD p 0)
  (hsamples : ∀ p, samples p = c.samples.getD p 0 + if blind.getLsbD (p / 256) then 0 else 1)
include hc hsum hsamples

/-- A line without runs adds raw less dark and one sample to every column that is not blind (R52). -/
theorem accumulate_eq :
    c.accumulate blind (rawValues 2048 raw) = { c with
      lines := c.lines + 1
      sums := (List.range 2048).map sum, samples := (List.range 2048).map samples } := by
  obtain ⟨hd, -, hs, hn⟩ := hc
  have hsums : addSums blind 0 (rawValues 2048 raw) c.dark c.sums = (List.range 2048).map sum := by
    refine eq_map_range ((length_addSums _ _ _ _ _).trans hs) 0 fun p hp => ?_
    rw [addSums_getD ((length_rawValues _ _).trans hs.symm) (hd.trans hs.symm) 0 (hs ▸ hp),
      rawValues_getD hp, hsum, Nat.zero_add]
  have hcounts : addSamples blind 0 c.samples = (List.range 2048).map samples := by
    refine eq_map_range ((length_addSamples _ _ _).trans hn) 0 fun p hp => ?_
    rw [addSamples_getD blind 0 (hn ▸ hp), hsamples, Nat.zero_add]
  unfold Corrector.accumulate
  rw [hsums, hcounts]

end

/-! ### The gains of a completed build (R53, R54) -/

/-- The mean of a pixel, absent without a sample (R53). -/
def pixelMean (sum : Nat → Int) (samples : Nat → Nat) (p : Nat) : Option Int :=
  if samples p = 0 then none else some (sum p / (samples p : Int))

theorem pixelMeans_map_range (n : Nat) (sum : Nat → Int) (samples : Nat → Nat) :
    pixelMeans ((List.range n).map sum) ((List.range n).map samples)
      = (List.range n).map (pixelMean sum samples) := by
  rw [pixelMeans_eq, List.map_map, List.zipWith_map, List.zipWith_self]
  refine List.map_congr_left fun p _ => ?_
  simp [pixelMean]

theorem present_pixelMeans (l : List Nat) (sum : Nat → Int) (samples : Nat → Nat) :
    (l.map (pixelMean sum samples)).filterMap id
      = (l.filter fun p => 0 < samples p).map fun p => sum p / (samples p : Int) := by
  induction l with
  | nil => rfl
  | cons p l ih =>
    by_cases h : samples p = 0
    · simpa [pixelMean, h] using ih
    · simpa [pixelMean, h, Nat.pos_of_ne_zero h] using ih

theorem foldl_add_eq_sum (l : List Int) : l.foldl (· + ·) 0 = l.sum := (List.sum_eq_foldl ..).symm

section
variable {sum : Nat → Int} {samples : Nat → Nat} {pixels : List Nat}
  (hp : pixels = (List.range 2048).filter fun p => 0 < samples p)
include hp

theorem meanOfMeans_of_pixels (hne : pixels ≠ []) {mean : Nat → Int}
    (hmean : ∀ p, mean p = sum p / (samples p : Int)) :
    meanOfMeans ((List.range 2048).map (pixelMean sum samples))
      = some ((pixels.map mean).sum / (pixels.length : Int)) := by
  have hmean' : mean = fun p => sum p / (samples p : Int) := funext hmean
  unfold meanOfMeans
  dsimp only
  rw [present_pixelMeans, ← hp, ← hmean', foldl_add_eq_sum, List.length_map,
    if_neg (by simpa using hne)]

end

theorem newGain_pixelMean {sum mean : Nat → Int} {samples : Nat → Nat} (m : Int) (g : Nat)
    {p : Nat} (hmean : mean p = sum p / (samples p : Int)) :
    newGain m (pixelMean sum samples p) g
      = if samples p = 0 then g
        else if mean p ≤ 0 then 4095 else (max 256 (min 4095 (1024 * m / mean p))).toNat := by
  unfold pixelMean
  rw [← hmean]
  split <;> rfl

/-- Without a sample a pixel keeps its gain (R53). -/
theorem newGain_of_no_samples {sum : Nat → Int} {samples : Nat → Nat} (m : Int) (g : Nat) {p : Nat}
    (h : samples p = 0) : newGain m (pixelMean sum samples p) g = g := by
  unfold pixelMean
  rw [if_pos h]
  rfl

/-- The gains that a build of these sums and samples installs. -/
theorem install_gains {c : Corrector} (hg : c.gain.length = 2048) {sum : Nat → Int}
    {samples : Nat → Nat} (m : Int) :
    List.zipWith (newGain m) ((List.range 2048).map (pixelMean sum samples)) c.gain
      = (List.range 2048).map fun p => newGain m (pixelMean sum samples p) (c.gain.getD p 0) := by
  have e := eq_map_getD_range hg 0
  calc List.zipWith (newGain m) ((List.range 2048).map (pixelMean sum samples)) c.gain
      = List.zipWith (newGain m) ((List.range 2048).map (pixelMean sum samples))
          ((List.range 2048).map fun p => c.gain.getD p 0) := by rw [← e]
    _ = _ := by rw [List.zipWith_map, List.zipWith_self]

/-! ### The end of a build (R53, R54) -/

theorem install_of_nonpos (c : Corrector) {m : Int} (h : m ≤ 0) : c.install m = c.endBuild .aborted :=
  if_pos h

theorem install_of_pos (c : Corrector) {m : Int} (h : 0 < m) :
    c.install m = { c.endBuild BuildState.done with
      gain := List.zipWith (newGain m) (pixelMeans c.sums c.samples) c.gain } :=
  if_neg (not_le.mpr h)

theorem completeBuild_of_short {s : State} (h : ¬ (s.corr.build = .busy
    ∧ s.corr.target = some s.corr.lines)) : s.completeBuild = s := if_neg h

/-- A build at its target is installed with the mean of the pixel means, or, of no pixel, with a free
value (R53; log 15). -/
theorem completeBuild_at_target {s : State} (hb : s.corr.build = .busy)
    (ht : s.corr.target = some s.corr.lines) :
    ∃ m, s.completeBuild.corr = s.corr.install m
      ∧ ∀ x ∈ meanOfMeans (pixelMeans s.corr.sums s.corr.samples), m = x := by
  unfold State.completeBuild
  rw [if_pos ⟨hb, ht⟩]
  split
  · rename_i m hm
    exact ⟨m, rfl, fun x hx => Option.some.inj (hm.symm.trans hx)⟩
  · rename_i hm
    refine ⟨_, rfl, fun x hx => ?_⟩
    rw [hm] at hx
    exact nomatch hx

/-- The corrector after a build, its tables apart (R53 to R55). -/
theorem endBuild_accumulated (c : Corrector) (b : BuildState) (n : Nat) (sums : List Int)
    (samples : List Nat) :
    Corrector.endBuild { c with lines := n, sums := sums, samples := samples } b
      = { c with
          build := b, target := none, lines := 0
          sums := List.replicate 2048 0, samples := List.replicate 2048 0 } := rfl

section
variable {c ended : Corrector} (hg : c.gain.length = 2048)
  (hended : ended = { c with
    target := none, lines := 0, sums := List.replicate 2048 0, samples := List.replicate 2048 0 })
  {n : Nat} {sum : Nat → Int} {samples : Nat → Nat} {k : Corrector}
  (hk : k = { c with
    lines := n, sums := (List.range 2048).map sum, samples := (List.range 2048).map samples })
include hended hk

theorem install_aborts {m : Int} (h : m ≤ 0) : k.install m = { ended with build := .aborted } := by
  rw [install_of_nonpos k h, hk, endBuild_accumulated, hended]

include hg

theorem install_done {m : Int} (h : 0 < m) :
    k.install m = { ended with
      build := .done
      gain := (List.range 2048).map fun p => newGain m (pixelMean sum samples p) (c.gain.getD p 0) } := by
  rw [install_of_pos k h, hk, endBuild_accumulated, hended, pixelMeans_map_range, install_gains hg]

/-- A build of no pixel keeps the gains, whatever value is drawn (log 15). -/
theorem install_of_no_samples (h : ∀ p < 2048, samples p = 0) (m : Int) :
    k.install m = { ended with build := .done } ∨ k.install m = { ended with build := .aborted } := by
  obtain hm | hm := le_or_gt m 0
  · exact .inr (install_aborts hended hk hm)
  · have hgain : ((List.range 2048).map fun p =>
        newGain m (pixelMean sum samples p) (c.gain.getD p 0)) = c.gain :=
      (eq_map_range hg 0 fun p hp => (newGain_of_no_samples m _ (h p hp)).symm).symm
    left
    rw [install_done hg hended hk hm, hgain, hended]

theorem install_of_means {mean : Nat → Int} (hmean : ∀ p, mean p = sum p / (samples p : Int))
    {m : Int} (h : 0 < m) :
    k.install m = { ended with
      build := .done
      gain := (List.range 2048).map fun p =>
        if samples p = 0 then c.gain.getD p 0
        else if mean p ≤ 0 then 4095
        else (max 256 (min 4095 (1024 * m / mean p))).toNat } := by
  rw [install_done hg hended hk h]
  simp only [newGain_pixelMean m _ (hmean _)]

end

theorem completeBuild_dark (s : State) : s.completeBuild.corr.dark = s.corr.dark := by
  have hinstall : ∀ m, (s.corr.install m).dark = s.corr.dark := fun m => by
    unfold Corrector.install
    split <;> rfl
  unfold State.completeBuild
  split
  · split
    · exact hinstall _
    · exact hinstall _
  · rfl

/-! ### The line handed on (R41, R48 to R50) -/

/-- The corrector's line on its way to the tracer, a crowded one counted and noted, with this corrector
before the build's end is looked for. -/
def State.lineHandedOn (s : State) (v : Setup) (l : LineInFlight) (blind : SegMask) (runs : List Run)
    (k : Corrector) : State :=
  { s.crowd v l.position (decide (16 < runs.length)) with
    corr := k
    tracer := { s.tracer with awaiting := s.tracer.awaiting ++ [{
      position := l.position, runs := runs.take 16, blind := blind, stale := s.staleSet
      crowded := decide (16 < runs.length), synthetic := v.synthetic }] } }

theorem crowd_tracer (s : State) (v : Setup) (p : Int) (crowded : Bool) :
    (s.crowd v p crowded).tracer = s.tracer := by
  unfold State.crowd
  split <;> rfl

theorem crowd_notes (s : State) (v : Setup) (p : Int) (n : Nat) :
    (s.crowd v p (decide (16 < n))).hz.notes
      = if 16 < n then mergeRange v.linePitch s.hz.inDelivery.isSome s.hz.notes p p
        else s.hz.notes := by
  unfold State.crowd
  by_cases h : 16 < n <;> simp [h]

theorem crowd_runOverflow (s : State) (v : Setup) (p : Int) (n : Nat) :
    (s.crowd v p (decide (16 < n))).counter .runOverflow
      = if 16 < n then min 65535 (s.counter .runOverflow + 1) else s.counter .runOverflow := by
  unfold State.crowd
  by_cases h : 16 < n
  · rw [if_pos (by simpa using h), if_pos h]
    exact s.count_counter_self .runOverflow
  · rw [if_neg (by simpa using h), if_neg h]

section
variable {s : State} {v : Setup} {l : LineInFlight} {raw : List (BitVec 12)} {withheld blind : SegMask}
  {runs : List Run} (hblind : blind = l.blind ||| withheld)
  (hruns : runs = lineRuns v (lineContrasts v blind l.position (rawValues 2048 raw) s.corr.dark
    s.corr.gain))
include hblind hruns

theorem correctLine_eq :
    s.correctLine v l raw withheld
      = (s.lineHandedOn v l blind runs (if s.corr.build = .busy ∧ runs = []
          then s.corr.accumulate blind (rawValues 2048 raw) else s.corr)).completeBuild := by
  subst hblind hruns
  unfold State.correctLine State.lineHandedOn
  dsimp only
  rw [crowd_corr, crowd_tracer]
  rfl

/-- The end of a build changes the corrector and the free draws alone. -/
theorem correctLine_writes :
    ∃ n, s.correctLine v l raw withheld
      = { s.lineHandedOn v l blind runs (s.correctLine v l raw withheld).corr with freeDraws := n } := by
  rw [correctLine_eq hblind hruns]
  obtain ⟨k, n, e⟩ := State.completeBuild_footprint (s.lineHandedOn v l blind runs
    (if s.corr.build = .busy ∧ runs = [] then s.corr.accumulate blind (rawValues 2048 raw) else s.corr))
  rw [e]
  exact ⟨n, rfl⟩

theorem correctLine_dark : (s.correctLine v l raw withheld).corr.dark = s.corr.dark := by
  rw [correctLine_eq hblind hruns, completeBuild_dark]
  unfold State.lineHandedOn
  dsimp only
  split <;> rfl

/-- A line outside a build, or with runs, leaves the corrector as it was (R52). -/
theorem correctLine_left_out (hc : CorrectorInv s) (h : s.corr.build ≠ .busy ∨ runs ≠ []) :
    (s.correctLine v l raw withheld).corr = s.corr := by
  obtain ⟨-, -, -, -, -, hbusy⟩ := hc
  rw [correctLine_eq hblind hruns, if_neg (by tauto), completeBuild_of_short]
  · rfl
  · rintro ⟨hb, ht⟩
    obtain ⟨-, g, hg, hlt⟩ := hbusy hb
    have ht : s.corr.target = some s.corr.lines := ht
    exact absurd (Option.some.inj (hg.symm.trans ht)) (by omega)

variable (hb : s.corr.build = .busy) (hr : runs = [])
include hb hr

theorem correctLine_accumulates (ht : s.corr.target ≠ some (s.corr.lines + 1)) :
    (s.correctLine v l raw withheld).corr = s.corr.accumulate blind (rawValues 2048 raw) := by
  rw [correctLine_eq hblind hruns, if_pos ⟨hb, hr⟩, completeBuild_of_short]
  · rfl
  · exact fun h => ht h.2

theorem correctLine_completes (ht : s.corr.target = some (s.corr.lines + 1)) :
    ∃ m, (s.correctLine v l raw withheld).corr
        = (s.corr.accumulate blind (rawValues 2048 raw)).install m
      ∧ ∀ x ∈ meanOfMeans (pixelMeans (s.corr.accumulate blind (rawValues 2048 raw)).sums
          (s.corr.accumulate blind (rawValues 2048 raw)).samples), m = x := by
  rw [correctLine_eq hblind hruns, if_pos ⟨hb, hr⟩]
  exact completeBuild_at_target (s := s.lineHandedOn v l blind runs _) hb ht

end

/-! ### A current line (R21) -/

theorem takeLine_of_inspecting {s : State} {v : Setup} (hv : s.ctl.setup = some v)
    (hm : s.ctl.mode = .inspecting) (l : LineInFlight) (raw : List (BitVec 12)) (withheld : SegMask) :
    s.takeLine l raw withheld
      = (s.dropLine.clearTimeouts.correctLine v l raw withheld).recompute := by
  unfold State.takeLine
  rw [hv]
  exact if_pos hm

theorem takeLine_of_not_inspecting {s : State} {v : Setup} (hv : s.ctl.setup = some v)
    (hm : s.ctl.mode ≠ .inspecting) (l : LineInFlight) (raw : List (BitVec 12)) (withheld : SegMask) :
    s.takeLine l raw withheld = s.dropLine.clearTimeouts.recompute := by
  unfold State.takeLine
  rw [hv]
  exact if_neg hm

/-- The reports after a line leave corrector, tracer, notes and the count of crowded lines as they are. -/
theorem recompute_leaves (s : State) :
    s.recompute.corr = s.corr ∧ s.recompute.tracer = s.tracer ∧ s.recompute.hz.notes = s.hz.notes
      ∧ s.recompute.counter .runOverflow = s.counter .runOverflow := by
  obtain ⟨p, e⟩ := s.recompute_reported
  have hcount := s.recompute_reports.counter .runOverflow (by decide)
  refine ⟨?_, ?_, ?_, hcount⟩ <;> rw [e] <;> rfl

/-- Settles O13: out of INSPECTING reports alone follow; in INSPECTING the corrector takes the line, which
is left out of a build, added to it, or its last. -/
theorem currentLinesAreHandedOn : Obligations.CurrentLinesAreHandedOn := by
  intro dt tag raw withheld c s v l blind runs sum samples ended hc hr hinv hv hl htag hblind hruns
    hsum hsamples hended
  have hexec : exec c s = .next ((s.begin dt).takeLine l raw withheld) := by
    rw [exec_arrival_running hr hc, takeArrival_of_line (s := s.begin dt) hl htag]
  by_cases hm : s.ctl.mode = .inspecting
  · set u : State := (s.begin dt).dropLine.clearTimeouts
    have hinv' : CorrectorInv u := by
      obtain ⟨h₁, h₂, h₃, h₄, h₅, h₆⟩ := hinv
      exact ⟨h₁, h₂, h₃, h₄, h₅, h₆⟩
    have hsized : u.corr.Sized := ((correctorInv_iff u).mp hinv').sized
    have hacc := accumulate_eq hsized hsum hsamples
    obtain ⟨n, e⟩ := correctLine_writes (s := u) hblind hruns (raw := raw)
    have hdark := correctLine_dark (s := u) hblind hruns (raw := raw)
    set w := u.correctLine v l raw withheld
    obtain ⟨hcorr, htracer, hnotes, hcount⟩ := recompute_leaves w
    rw [takeLine_of_inspecting (s := s.begin dt) hv hm] at hexec
    refine ⟨w.recompute, hexec, ?_, fun hne => absurd hm hne, fun _ => ⟨?_, ?_, ?_, ?_, ?_, ?_⟩⟩
    · obtain ⟨p, e'⟩ := w.recompute_reported
      obtain ⟨k, a, notes, n', d, ew⟩ := u.correctLine_footprint v l raw withheld
      obtain ⟨dark, gain, build, target, lines, sums, counts⟩ := k
      have hw : w.corr.dark = dark := congrArg (fun x : State => x.corr.dark) ew
      obtain rfl : dark = s.corr.dark := hw.symm.trans hdark
      rw [e', show w = _ from ew]
      rfl
    · rw [htracer, e]
      rfl
    · rw [hnotes, e]
      exact crowd_notes u v l.position runs.length
    · rw [hcount, e]
      exact crowd_runOverflow u v l.position runs.length
    · intro h
      exact hcorr.trans (correctLine_left_out (s := u) hblind hruns hinv' h)
    · intro hb hnil ht
      exact hcorr.trans ((correctLine_accumulates (s := u) hblind hruns hb hnil ht).trans hacc)
    · intro hb hnil ht
      obtain ⟨m', e', hm'⟩ := correctLine_completes (s := u) hblind hruns hb hnil ht (raw := raw)
      rw [hcorr, e']
      refine ⟨fun h => install_of_no_samples hsized.2.1 hended hacc h m', ?_⟩
      intro pixels mean m hne hpixels hmean hmeans
      obtain rfl : m' = m := by
        refine hm' m ?_
        rw [hacc, pixelMeans_map_range, meanOfMeans_of_pixels hpixels hne hmean, hmeans]
        rfl
      exact ⟨install_aborts hended hacc, install_of_means hsized.2.1 hended hacc hmean⟩
  · set u : State := (s.begin dt).dropLine.clearTimeouts
    obtain ⟨p, e⟩ := u.recompute_reported
    obtain ⟨hcorr, htracer, hnotes, -⟩ := recompute_leaves u
    rw [takeLine_of_not_inspecting (s := s.begin dt) hv hm] at hexec
    refine ⟨u.recompute, hexec, ?_, fun _ => ⟨htracer, hcorr, hnotes⟩, fun h => absurd h hm⟩
    rw [e]
    rfl

end Sys2Proof.Machine
end

section
/-! SUPPORT. The sixteenth timeout (O16): what the forced close hands to transmit queue and record unit, what
stays there, and what the head fault writes. -/

namespace Sys2Proof.Machine

set_option Elab.async false

/-! ### What the transmit queue keeps -/

theorem handFrame_queue (s : State) (f : TxFrame) :
    (s.handFrame f).xcvr.queue = s.xcvr.queue ∨ (s.handFrame f).xcvr.queue = s.xcvr.queue ++ [f] := by
  unfold State.handFrame
  split
  · exact .inl rfl
  · split
    · exact .inl rfl
    · exact .inr rfl

/-- A frame that is not a HORIZON joins a queue with room (R88). -/
theorem handFrame_joins {s : State} {f : TxFrame} (hf : f.isHorizon = false)
    (h : s.xcvr.queue.length < 16) : (s.handFrame f).xcvr.queue = s.xcvr.queue ++ [f] := by
  have hroom : s.queueFull = false := decide_eq_false (not_le.mpr h)
  unfold State.handFrame
  rw [hf, hroom]
  rfl

theorem handFrame_queue_prefix (s : State) (f : TxFrame) :
    s.xcvr.queue <+: (s.handFrame f).xcvr.queue := by
  obtain h | h := handFrame_queue s f <;> rw [h]
  exact List.prefix_append _ _

theorem decideBillets_queue_prefix (v : Setup) (bs : List Billet) (s : State) :
    s.xcvr.queue <+: (decideBillets v bs s).2.xcvr.queue := by
  induction bs generalizing s with
  | nil => exact List.prefix_rfl
  | cons b rest ih =>
    unfold decideBillets
    split
    · dsimp only
      split
      · exact handFrame_queue_prefix s _
      · exact (handFrame_queue_prefix s _).trans (ih _)
    · exact ih s

theorem verdictDecision_queue_prefix (s : State) (v : Setup) :
    s.xcvr.queue <+: (s.verdictDecision v).xcvr.queue := by
  unfold State.verdictDecision
  split
  · exact decideBillets_queue_prefix v s.billet.billets s
  · exact List.prefix_rfl

theorem billetRise_queue_prefix (s : State) (v : Setup) :
    s.xcvr.queue <+: (s.billetRise v).xcvr.queue :=
  verdictDecision_queue_prefix { s with billet := { s.billet with
    billets := s.billet.billets.map (Billet.fallDue s.hz.horizon) } } v

theorem commitBelow_xcvr (v : Setup) (h : Int) (s : State) : (s.commitBelow v h).xcvr = s.xcvr := by
  obtain ⟨r, b, m, d, e⟩ := s.commitBelow_footprint v h
  rw [e]

theorem recomputeHorizon_queue_prefix (s : State) (v : Setup) :
    s.xcvr.queue <+: (s.recomputeHorizon v).xcvr.queue := by
  unfold State.recomputeHorizon
  split
  · have h := billetRise_queue_prefix (State.commitBelow v s.newHorizon
      { s with hz := { s.hz with horizon := s.newHorizon } }) v
    rwa [commitBelow_xcvr] at h
  · exact List.prefix_rfl

theorem recompute_queue_prefix (s : State) : s.xcvr.queue <+: s.recompute.xcvr.queue := by
  have hstep : ∀ (u : State) (v : Setup), u.xcvr.queue <+: (u.horizonStep v).xcvr.queue := by
    intro u v
    unfold State.horizonStep
    split
    · exact handFrame_queue_prefix u _
    · exact List.prefix_rfl
  unfold State.recompute
  split
  · exact List.prefix_rfl
  · rename_i v _
    have h := hstep { s with hz := { s.hz with ownClearTo := s.newClearTo v } } v
    dsimp only
    split
    · exact h
    · exact h.trans (recomputeHorizon_queue_prefix _ v)

theorem coveringTest_queue (s : State) (v : Setup) : (s.coveringTest v).xcvr = s.xcvr := by
  obtain ⟨p, r, b, m, d, e⟩ := s.coveringTest_footprint v
  rw [e]

/-! ### What the pending list keeps -/

theorem feedMarker_record (s : State) (f : Finding) : (s.feedMarker f).record = s.record := by
  obtain ⟨m, d, e⟩ := s.feedMarker_footprint f
  rw [e]

theorem evict_pending (s : State) : s.evict.record.pending = s.record.pending := by
  unfold State.evict
  split <;> rfl

theorem commitEntry_pending (v : Setup) (s : State) (e : Entry) :
    (State.commitEntry v s e).record.pending = s.record.pending := by
  cases e with
  | finding f =>
    unfold State.commitEntry
    dsimp only
    split
    · rw [feedMarker_record]
    · rw [feedMarker_record]
      exact makeRoom_pending s
  | loss o a b => exact makeRoom_pending s
  | gap f o a b => exact makeRoom_pending s

theorem commitAll_pending (v : Setup) (es : List Entry) (s : State) :
    (es.foldl (State.commitEntry v) s).record.pending = s.record.pending := by
  induction es generalizing s with
  | nil => rfl
  | cons e rest ih => exact (ih _).trans (commitEntry_pending v s e)

/-- A commit leaves on the pending list what starts at the strand horizon or above (R139). -/
theorem commitBelow_pending (v : Setup) (h : Int) (s : State) :
    (s.commitBelow v h).record.pending = s.record.pending.filter fun e => !(e.start < h) := by
  unfold State.commitBelow
  rw [evict_pending, commitAll_pending]

theorem recomputeHorizon_pending {s : State} {e : Entry} (he : e ∈ s.record.pending)
    (h : s.newHorizon ≤ e.start) (v : Setup) : e ∈ (s.recomputeHorizon v).record.pending := by
  unfold State.recomputeHorizon
  split
  · obtain ⟨b, x, d, e'⟩ := State.billetRise_footprint (State.commitBelow v s.newHorizon
      { s with hz := { s.hz with horizon := s.newHorizon } }) v
    rw [e']
    show e ∈ (State.commitBelow v s.newHorizon _).record.pending
    rw [commitBelow_pending]
    exact List.mem_filter.mpr ⟨he, by simpa using h⟩
  · exact he

theorem foldl_min_le (l : List Int) (a : Int) : l.foldl min a ≤ a := by
  induction l generalizing a with
  | nil => exact le_rfl
  | cons x l ih => exact (ih _).trans (min_le_left a x)

/-- The own clear-to rises no further than the line frontier (R81, R82). -/
theorem newClearTo_le {s : State} {v : Setup} (h : s.hz.ownClearTo ≤ s.frontier v) :
    s.newClearTo v ≤ s.frontier v := max_le h (foldl_min_le _ _)

/-- The strand horizon rises no further than the own clear-to (R122). -/
theorem newHorizon_le {s : State} {a : Int} (hh : s.hz.horizon ≤ a) (hc : s.hz.ownClearTo ≤ a) :
    s.newHorizon ≤ a := max_le hh ((foldl_min_le _ _).trans hc)

/-- An entry at the line frontier stays on the pending list in a recomputation. -/
theorem recompute_pending {s : State} {v : Setup} (hv : s.ctl.setup = some v) {e : Entry}
    (he : e ∈ s.record.pending) (hs : e.start = s.frontier v) (hh : s.hz.horizon ≤ s.hz.ownClearTo)
    (hc : s.hz.ownClearTo ≤ s.frontier v) : e ∈ s.recompute.record.pending := by
  obtain ⟨x, d, e'⟩ := State.horizonStep_footprint
    { s with hz := { s.hz with ownClearTo := s.newClearTo v } } v
  unfold State.recompute
  rw [hv]
  dsimp only
  set u := State.horizonStep { s with hz := { s.hz with ownClearTo := s.newClearTo v } } v
  have hrec : e ∈ u.record.pending := by rw [e']; exact he
  have hhor : u.hz.horizon = s.hz.horizon := by rw [e']
  have hown : u.hz.ownClearTo = s.newClearTo v := by rw [e']
  split
  · exact hrec
  · refine recomputeHorizon_pending hrec ?_ v
    rw [hs]
    exact newHorizon_le (hhor ▸ hh.trans hc) (hown ▸ newClearTo_le hc)

/-- Not yet behind the strand horizon, an entry that is no finding goes to a pending list with room
(R132, R134). -/
theorem handEntry_pending {s : State} {e : Entry} (hcopy : s.isSecondCopy e = false)
    (hs : s.hz.horizon ≤ e.start) (hroom : s.record.pending.length < 64) :
    e ∈ (s.handEntry e).record.pending := by
  unfold State.handEntry
  rw [if_neg (by simp [hcopy]), if_neg (not_lt.mpr hs)]
  unfold State.toPending
  rw [if_pos (by exact hroom)]
  exact mem_insertEntry.mpr (.inl rfl)

theorem takeLate_pending (s : State) (e : Entry) :
    (s.takeLate e).record.pending = s.record.pending := by
  have hroom : (s.count .late).makeRoom.record.pending = s.record.pending := makeRoom_pending _
  cases e with
  | finding f =>
    unfold State.takeLate
    rw [evict_pending, feedMarker_record]
    exact hroom
  | loss o a b =>
    unfold State.takeLate
    rw [evict_pending]
    exact hroom
  | gap f o a b =>
    unfold State.takeLate
    rw [evict_pending]
    exact hroom

theorem length_handEntry_pending (s : State) (e : Entry) :
    (s.handEntry e).record.pending.length ≤ s.record.pending.length + 1 := by
  unfold State.handEntry
  split
  · split <;> exact Nat.le_succ _
  · split
    · rw [takeLate_pending]
      exact Nat.le_succ _
    · unfold State.toPending
      split
      · exact (length_insertEntry e _).le
      · exact Nat.le_succ _

/-! ### What the closed traces hand on (R75 to R80) -/

/-- From `s` to `t` controller as before, the queue longer at its end, and queue and pending list longer by n
at most. -/
structure Grows (s t : State) (n : Nat) : Prop where
  ctl : t.ctl = s.ctl
  queue : s.xcvr.queue <+: t.xcvr.queue
  queue_le : t.xcvr.queue.length ≤ s.xcvr.queue.length + n
  pending_le : t.record.pending.length ≤ s.record.pending.length + n

theorem Grows.refl (s : State) (n : Nat) : Grows s s n :=
  ⟨rfl, List.prefix_rfl, Nat.le_add_right _ _, Nat.le_add_right _ _⟩

theorem Grows.after {s t u : State} {m n : Nat} (h : Grows t u n) (k : Grows s t m) :
    Grows s u (m + n) where
  ctl := h.ctl.trans k.ctl
  queue := k.queue.trans h.queue
  queue_le := by have := h.queue_le; have := k.queue_le; omega
  pending_le := by have := h.pending_le; have := k.pending_le; omega

theorem handFinding_grows (s : State) (f : Finding) : Grows s (s.handFinding f) 1 := by
  unfold State.handFinding
  dsimp only
  set u : State := { s with tracer := { s.tracer with
    nextId := (s.tracer.nextId + 1) % 65536, made := s.tracer.made + 1 } }
  obtain ⟨r, b, m, d, e⟩ := u.handEntry_footprint (.finding f)
  have hp := length_handEntry_pending u (.finding f)
  set w := u.handEntry (.finding f)
  set frame := u.toStrand f.test (.finding f s.tracer.made)
  have hqueue : w.xcvr.queue = s.xcvr.queue := by rw [e]
  obtain ⟨x, d', e'⟩ := w.handFrame_footprint frame
  refine ⟨by rw [e', e], hqueue ▸ handFrame_queue_prefix w frame, ?_, by rw [e']; exact hp⟩
  obtain h | h := handFrame_queue w frame <;> simp [h, hqueue]

theorem takeClosed_grows (v : Setup) (s : State) (x : Trace) : Grows s (State.takeClosed v s x) 1 := by
  unfold State.takeClosed
  split
  · exact .refl s 1
  · dsimp only
    split
    · exact ⟨rfl, List.prefix_rfl, Nat.le_succ _, Nat.le_succ _⟩
    · exact handFinding_grows s _

theorem takeEach_grows (v : Setup) (xs : List Trace) (s : State) :
    Grows s (xs.foldl (State.takeClosed v) s) xs.length := by
  induction xs generalizing s with
  | nil => exact .refl s 0
  | cons x xs ih =>
    have h := (ih (State.takeClosed v s x)).after (takeClosed_grows v s x)
    rwa [Nat.add_comm] at h

/-- A finding goes to a queue with room under the next finding id (R79, R80). -/
theorem takeClosed_hands {v : Setup} {s : State} {x : Trace} {lo hi : Nat}
    (hx : x.extent = some (lo, hi)) {f : Finding} (hf : s.findingOf v x lo hi = f)
    (hkept : f.cls ≠ .minor ∨ f.severity ≠ 0) (hroom : s.xcvr.queue.length < 16) :
    s.toStrand f.test (.finding f s.tracer.made) ∈ (State.takeClosed v s x).xcvr.queue := by
  unfold State.takeClosed
  rw [hx]
  dsimp only
  rw [hf, if_neg (by tauto)]
  unfold State.handFinding
  dsimp only
  obtain ⟨r, b, m, d, e⟩ := State.handEntry_footprint { s with tracer := { s.tracer with
    nextId := (s.tracer.nextId + 1) % 65536, made := s.tracer.made + 1 } } (.finding f)
  rw [handFrame_joins rfl (by rw [e]; exact hroom)]
  exact List.mem_append_right _ (List.mem_singleton_self _)

/-- Of the node the finding of a trace takes controller and finding id alone. -/
theorem findingOf_of_ctl {s t : State} (h : t.ctl = s.ctl) (v : Setup) (x : Trace) (lo hi : Nat) :
    t.findingOf v x lo hi = { s.findingOf v x lo hi with id := t.tracer.nextId } := by
  unfold State.findingOf State.ownId
  rw [h]

theorem toStrand_of_ctl {s t : State} (h : t.ctl = s.ctl) (test : Bool) (body : TxBody) :
    t.toStrand test body = s.toStrand test body := by
  unfold State.toStrand
  rw [h]

/-- Every finding of the closed traces reaches a queue with room for all of them, under one id or
another. -/
theorem takeEach_hands {v : Setup} {x : Trace} {lo hi : Nat} (hx : x.extent = some (lo, hi))
    {f : Finding} (hkept : f.cls ≠ .minor ∨ f.severity ≠ 0) {xs : List Trace} {s : State}
    (hf : s.findingOf v x lo hi = { f with id := s.tracer.nextId }) (hmem : x ∈ xs)
    (hroom : s.xcvr.queue.length + xs.length ≤ 16) :
    ∃ id n, s.toStrand f.test (.finding { f with id := id } n)
      ∈ (xs.foldl (State.takeClosed v) s).xcvr.queue := by
  induction xs generalizing s with
  | nil => exact nomatch hmem
  | cons y xs ih =>
    have hstep := takeClosed_grows v s y
    rw [List.length_cons] at hroom
    obtain rfl | hmem := List.mem_cons.mp hmem
    · have h := takeClosed_hands hx hf hkept (by omega)
      exact ⟨_, _, (takeEach_grows v xs _).queue.subset h⟩
    · have hle := hstep.queue_le
      have hf' := findingOf_of_ctl hstep.ctl v x lo hi
      rw [hf] at hf'
      obtain ⟨id, n, h⟩ := ih hf' hmem (by omega)
      rw [toStrand_of_ctl hstep.ctl] at h
      exact ⟨id, n, h⟩

/-! ### The order of the closed traces (R75) -/

theorem insertClosed_perm (x : Trace) (xs : List Trace) : (insertClosed x xs).Perm (x :: xs) := by
  induction xs with
  | nil => exact .refl _
  | cons y xs ih =>
    unfold insertClosed
    split
    · exact .refl _
    · exact (ih.cons y).trans (.swap x y xs)

theorem closedOrder_perm (xs : List Trace) : (closedOrder xs).Perm xs := by
  have h : ∀ (xs acc : List Trace),
      (xs.foldl (fun acc t => insertClosed t acc) acc).Perm (xs ++ acc) := by
    intro xs
    induction xs with
    | nil => exact fun acc => .refl _
    | cons x xs ih =>
      exact fun acc => (ih _).trans
        (((insertClosed_perm x acc).append_left xs).trans List.perm_middle)
  have hnil := h xs []
  rwa [List.append_nil] at hnil

/-- The traces a head fault closes. -/
def interruptedTraces (slots : List (Option Trace)) : List Trace :=
  slots.filterMap fun slot => slot.map fun x => { x with flags := { x.flags with interrupted := true } }

theorem length_interruptedTraces (slots : List (Option Trace)) :
    (interruptedTraces slots).length = slots.countP Option.isSome := by
  induction slots with
  | nil => rfl
  | cons slot slots ih =>
    cases slot with
    | none => simpa [interruptedTraces] using ih
    | some x => simpa [interruptedTraces] using ih

theorem mem_interruptedTraces {slots : List (Option Trace)} {x : Trace} (h : some x ∈ slots) :
    { x with flags := { x.flags with interrupted := true } } ∈ interruptedTraces slots :=
  List.mem_filterMap.mpr ⟨some x, h, rfl⟩

/-- The state with the trace table empty and its last close set, before the closed traces are taken. -/
def State.emptied (s : State) : State :=
  { s with tracer := { s.tracer with
    slots := List.replicate 32 none
    lastClose := some { kind := .headFault, position := s.travel.lastLine } } }

theorem closeAll_headFault (s : State) (v : Setup) :
    s.closeAll v .headFault
      = (closedOrder (interruptedTraces s.tracer.slots)).foldl (State.takeClosed v) s.emptied := by
  unfold State.closeAll State.takeAllClosed interruptedTraces State.emptied
  simp only [beq_self_eq_true, Bool.or_true]
  rfl

theorem closeAll_grows (s : State) (v : Setup) :
    Grows s (s.closeAll v .headFault) (s.tracer.slots.countP Option.isSome) := by
  rw [closeAll_headFault, ← length_interruptedTraces,
    ← (closedOrder_perm (interruptedTraces s.tracer.slots)).length_eq]
  obtain ⟨h₁, h₂, h₃, h₄⟩ := takeEach_grows v (closedOrder (interruptedTraces s.tracer.slots)) s.emptied
  exact ⟨h₁, h₂, h₃, h₄⟩

/-- The finding of an open trace is queued with INTERRUPTED at a head fault (R74, R80). -/
theorem closeAll_hands {s : State} {v : Setup} {x : Trace} {lo hi : Nat} {f : Finding}
    (hmem : some x ∈ s.tracer.slots) (hx : x.extent = some (lo, hi)) (hf : f = s.findingOf v x lo hi)
    (hkept : f.cls ≠ .minor ∨ f.severity ≠ 0)
    (hroom : s.xcvr.queue.length + s.tracer.slots.countP Option.isSome ≤ 16) :
    ∃ id n, s.toStrand f.test (.finding { f with
      id := id, flags := { f.flags with interrupted := true } } n)
        ∈ (s.closeAll v .headFault).xcvr.queue := by
  rw [closeAll_headFault]
  have hperm := closedOrder_perm (interruptedTraces s.tracer.slots)
  have hlen := hperm.length_eq
  rw [length_interruptedTraces] at hlen
  subst hf
  exact takeEach_hands (s := s.emptied)
    (x := { x with flags := { x.flags with interrupted := true } })
    (f := { s.findingOf v x lo hi with
      flags := { (s.findingOf v x lo hi).flags with interrupted := true } })
    hx hkept rfl (hperm.mem_iff.mpr (mem_interruptedTraces hmem)) (by rw [hlen]; exact hroom)

end Sys2Proof.Machine
end

section
/-! SUPPORT. The head fault as a whole (O16): what it cuts short at the head port, and what follows of it. -/

namespace Sys2Proof.Machine

set_option Elab.async false

/-! ### What is cut short at the head port (R23 to R26, R37) -/

/-- What the end of the reference outstanding writes. -/
structure HeadCut where
  tag   : BitVec 8
  sent  : List PortMessage
  sched : Scheduler
  dark  : List Nat

/-- A cycle of segment i cut short (R37). -/
def State.cycleCut (s : State) (r : Reference) (i : Fin 8) : HeadCut where
  tag := s.head.tag
  sent := s.head.sent ++ [.referenceStop r.tag]
  sched := { s.sched with
    segs := s.sched.segs.set i {
      state := .current, postponed := 0
      lastReference := if 8 ≤ r.taken then some s.nodeTime else (s.seg i).lastReference }
    pointer := if 8 ≤ r.taken then i + 1 else s.sched.pointer
    accum := [] }
  dark := if 8 ≤ r.taken then s.corr.dark.take (256 * i) ++ s.sched.accum.map (· / r.taken)
      ++ s.corr.dark.drop (256 * (i + 1))
    else s.corr.dark

/-- An all-segment reference cut short under this request tag, after these messages (R37). -/
def State.allCut (s : State) (r : Reference) (tag : BitVec 8) (sent : List PortMessage) : HeadCut where
  tag := tag
  sent := sent
  sched := { s.sched with
    segs := s.sched.segs.map fun g => {
      state := .current, postponed := 0
      lastReference := if 8 ≤ r.taken then some s.nodeTime else g.lastReference }
    allRunning := false, accum := [] }
  dark := if 8 ≤ r.taken then s.sched.accum.map (· / r.taken) else s.corr.dark

/-- What the reference outstanding leaves, cut short by a head fault at a line's timeout, or at a readout's,
which asks afresh before it stops (log 13). -/
def State.faultCut (s : State) (afresh : Bool) : HeadCut :=
  match s.head.reference with
  | none => { tag := s.head.tag, sent := s.head.sent, sched := s.sched, dark := s.corr.dark }
  | some r =>
    match r.scope with
    | .segment i => s.cycleCut r i
    | .all =>
      if afresh then
        s.allCut r (s.head.tag + 1)
          (s.head.sent ++ [.referenceRequest s.head.tag .all, .referenceStop s.head.tag])
      else s.allCut r s.head.tag (s.head.sent ++ [.referenceStop r.tag])

/-- The notes with that of a line in flight (R23). -/
def State.faultNotes (s : State) (v : Setup) : List Note :=
  match s.head.line with
  | none => s.hz.notes
  | some l => mergeRange v.linePitch s.hz.inDelivery.isSome s.hz.notes l.position l.position

/-- The state in HEAD-FAULT, its sixteenth timeout counted and its exchanges cut short, before the open traces
close. -/
def State.cutByFault (s : State) (v : Setup) (c : HeadCut) : State :=
  { s with
    ctl := { s.ctl with mode := .headFault }
    head := { s.head with
      tag := c.tag, line := none, reference := none, timeouts := s.head.timeouts + 1
      probeTimer := some (s.nodeTime + 100), sent := c.sent }
    sched := c.sched
    corr := { s.corr with dark := c.dark }
    hz := { s.hz with notes := s.faultNotes v }
    diag := ((s.count .lineTimeout).setFlag .headFault).diag }

/-- What follows in tracer, corrector, covering and own clear-to (R55, R74, R197). -/
def State.afterFault (s : State) (v : Setup) : State :=
  (((s.closeAll v .headFault).abortBuild).coveringTest v).recompute

theorem faultCut_of_none {s : State} (h : s.head.reference = none) (afresh : Bool) :
    s.faultCut afresh
      = { tag := s.head.tag, sent := s.head.sent, sched := s.sched, dark := s.corr.dark } := by
  unfold State.faultCut
  rw [h]

theorem faultCut_of_segment {s : State} {r : Reference} (h : s.head.reference = some r) {i : Fin 8}
    (hs : r.scope = .segment i) (afresh : Bool) : s.faultCut afresh = s.cycleCut r i := by
  unfold State.faultCut
  rw [h]
  dsimp only
  rw [hs]

theorem faultCut_of_all {s : State} {r : Reference} (h : s.head.reference = some r)
    (hs : r.scope = .all) :
    s.faultCut false = s.allCut r s.head.tag (s.head.sent ++ [.referenceStop r.tag])
      ∧ s.faultCut true = s.allCut r (s.head.tag + 1)
        (s.head.sent ++ [.referenceRequest s.head.tag .all, .referenceStop s.head.tag]) := by
  unfold State.faultCut
  rw [h]
  dsimp only
  rw [hs]
  exact ⟨rfl, rfl⟩

theorem without_line {s : State} (h : s.head.line = none) :
    { s with head := { s.head with line := none } } = s := by
  rw [← h]

theorem without_reference {s : State} (h : s.head.reference = none) :
    { s with head := { s.head with reference := none } } = s := by
  rw [← h]

theorem abandonNoted_eq (s : State) (v : Setup) :
    s.abandonNoted v
      = { s with head := { s.head with line := none }, hz := { s.hz with notes := s.faultNotes v } } := by
  unfold State.abandonNoted State.faultNotes
  cases h : s.head.line with
  | none => exact (without_line h).symm
  | some l => rfl

theorem truncateByFault_eq (s : State) :
    s.truncateByFault = { s with
      head := { s.head with reference := none, tag := (s.faultCut false).tag
                            sent := (s.faultCut false).sent }
      sched := (s.faultCut false).sched
      corr := { s.corr with dark := (s.faultCut false).dark } } := by
  unfold State.truncateByFault
  cases h : s.head.reference with
  | none =>
    rw [faultCut_of_none h]
    exact (without_reference h).symm
  | some r =>
    dsimp only
    cases hs : r.scope with
    | segment i =>
      rw [faultCut_of_segment h hs]
      exact truncateCycle_eq h i r.taken
    | all =>
      rw [(faultCut_of_all h hs).1]
      exact truncateAll_eq h r.taken

theorem countTimeout_of_15 {s : State} (h : s.head.timeouts = 15) (hm : s.ctl.mode.faults = true)
    (v : Setup) : s.countTimeout v = s.withTimeout.enterHeadFault v := by
  have hc : min Config.faultTimeouts (s.head.timeouts + 1) = s.head.timeouts + 1 := by
    unfold Config.faultTimeouts
    omega
  unfold State.countTimeout
  rw [hc]
  exact if_pos ⟨by rw [h]; rfl, hm⟩

theorem enterHeadFault_eq (s : State) (v : Setup) :
    (s.enterHeadFault v).recompute
      = State.afterFault { s with
          ctl := { s.ctl with mode := .headFault }
          head := { s.head with
            tag := (s.faultCut false).tag, line := none, reference := none
            probeTimer := some (s.nodeTime + 100), sent := (s.faultCut false).sent }
          sched := (s.faultCut false).sched
          corr := { s.corr with dark := (s.faultCut false).dark }
          hz := { s.hz with notes := s.faultNotes v }
          diag := (s.setFlag .headFault).diag } v := by
  unfold State.enterHeadFault
  dsimp only
  rw [abandonNoted_eq, truncateByFault_eq]
  rfl

theorem enterHeadFault_mode (s : State) (v : Setup) : (s.enterHeadFault v).ctl.mode = .headFault := by
  unfold State.enterHeadFault
  dsimp only
  rw [abandonNoted_eq, truncateByFault_eq]
  set u : State := State.closeAll _ v .headFault with hu
  obtain ⟨i, n, r, b, m, x, d, e⟩ := State.closeAll_footprint _ v .headFault
  obtain ⟨k, e₁, -⟩ := abortBuild_effect u
  obtain ⟨g, r', b', m', d', e₂⟩ := u.abortBuild.coveringTest_footprint v
  rw [e₂, e₁, hu, e]
  rfl

/-- A line's timeout that is the sixteenth (R22, R26). -/
theorem takeLineTimeout_faults {s : State} {v : Setup} {l : LineInFlight} (hl : s.head.line = some l)
    (hv : s.ctl.setup = some v) (hd : l.requestedAt + 20 ≤ s.nodeTime) (ht : s.head.timeouts = 15)
    (hm : s.ctl.mode.faults = true) :
    s.takeLineTimeout = (s.cutByFault v (s.faultCut false)).afterFault v := by
  have hnotes : s.faultNotes v
      = mergeRange v.linePitch s.hz.inDelivery.isSome s.hz.notes l.position l.position := by
    unfold State.faultNotes
    rw [hl]
  unfold State.cutByFault
  rw [takeLineTimeout_of_due hl hv hd, State.timeOutLine, countTimeout_of_15 (by exact ht) (by exact hm),
    enterHeadFault_eq, hnotes]
  rfl

/-- The cut of the fresh request is that of a readout's timeout (log 13). -/
theorem renewRequest_faultCut {s : State} {r : Reference} (hr : s.head.reference = some r)
    (hs : r.scope = .all) :
    (((s.count .lineTimeout).renewRequest r.taken).withTimeout).faultCut false = s.faultCut true := by
  have hsent : s.head.sent ++ [.referenceRequest s.head.tag .all, .referenceStop s.head.tag]
      = s.head.sent ++ [.referenceRequest s.head.tag .all] ++ [.referenceStop s.head.tag] := by simp
  rw [(faultCut_of_all hr hs).2, hsent]
  exact (faultCut_of_all (s := ((s.count .lineTimeout).renewRequest r.taken).withTimeout)
    (r := { scope := .all, tag := s.head.tag, taken := r.taken
            due := s.nodeTime + Config.headWait }) rfl rfl).1

theorem renewed_eq (s : State) (n : Nat) :
    ((s.count .lineTimeout).renewRequest n).withTimeout = { s with
      head := { s.head with
        tag := s.head.tag + 1, timeouts := s.head.timeouts + 1
        sent := s.head.sent ++ [.referenceRequest s.head.tag .all]
        reference := some { scope := .all, tag := s.head.tag, taken := n
                            due := s.nodeTime + Config.headWait } }
      diag := (s.count .lineTimeout).diag } := rfl

/-- A readout's timeout that is the sixteenth (R25, R26). -/
theorem takeReadoutTimeout_faults {s : State} {v : Setup} {r : Reference}
    (hr : s.head.reference = some r) (hv : s.ctl.setup = some v) (hd : r.due ≤ s.nodeTime)
    (ht : s.head.timeouts = 15) (hm : s.ctl.mode.faults = true) :
    s.takeReadoutTimeout = (s.cutByFault v (s.faultCut true)).afterFault v := by
  rw [takeReadoutTimeout_of_due hr hv hd]
  cases hs : r.scope with
  | segment i =>
    have hcut : (((s.count .lineTimeout).truncateCycle i r.taken).countTimeout v)
        = (((s.count .lineTimeout).truncateCycle i r.taken).withTimeout).enterHeadFault v := by
      rw [truncateCycle_eq (s := s.count .lineTimeout) hr]
      exact countTimeout_of_15 (by exact ht) (by exact hm) v
    rw [timeOutReadout_segment hs, hcut, if_pos (enterHeadFault_mode _ v), enterHeadFault_eq,
      truncateCycle_eq (s := s.count .lineTimeout) hr, faultCut_of_segment hr hs]
    rfl
  | all =>
    have hcut : (((s.count .lineTimeout).renewRequest r.taken).countTimeout v)
        = (((s.count .lineTimeout).renewRequest r.taken).withTimeout).enterHeadFault v :=
      countTimeout_of_15 (by exact ht) (by exact hm) v
    rw [timeOutReadout_all hs, hcut, if_pos (enterHeadFault_mode _ v), enterHeadFault_eq,
      renewRequest_faultCut hr hs]
    generalize s.faultCut true = cut
    rw [renewed_eq]
    rfl

/-! ### What follows in the other blocks -/

/-- Out of INSPECTING a node that covered opens its own GAP, and one that did not does nothing (R121,
R197). -/
theorem coveringTest_of_not_inspecting {s : State} (hm : s.ctl.mode ≠ .inspecting) (v : Setup) :
    s.coveringTest v = if s.ctl.covering = true
      then State.openOwnGap { s with ctl := { s.ctl with covering := false } } v else s := by
  have hi : s.isCovering = false := State.isCovering_of_not_inspecting hm
  unfold State.coveringTest
  rw [hi]
  cases s.ctl.covering <;> rfl

theorem coveringTest_reports {s : State} (hm : s.ctl.mode ≠ .inspecting) (v : Setup) :
    Reports s (s.coveringTest v) := by
  rw [coveringTest_of_not_inspecting hm]
  split
  · exact (State.handEntry_reports _ _).after (.silent rfl rfl rfl)
  · exact .refl s

section
variable (s : State)

theorem abortBuild_dark : s.abortBuild.corr.dark = s.corr.dark := by
  unfold State.abortBuild
  split <;> rfl

theorem abortBuild_reports : Reports s s.abortBuild := by
  obtain ⟨k, e, -⟩ := abortBuild_effect s
  rw [e]
  exact .silent rfl rfl rfl

end

section
variable {s : State} (hm : s.ctl.mode = .headFault) (v : Setup)
include hm

theorem closed_not_inspecting : (s.closeAll v .headFault).abortBuild.ctl.mode ≠ .inspecting := by
  obtain ⟨k, e, -⟩ := abortBuild_effect (s.closeAll v .headFault)
  obtain ⟨i, n, p, e'⟩ := s.closeAll_reported v .headFault
  rw [e, e']
  exact hm.trans_ne (by decide)

/-- What is written after the head port: covering, trace table, build and own gap (R55, R74, R121, R197). -/
theorem afterFault_writes :
    ∃ k i n p, s.afterFault v
      = { s with
          ctl := { s.ctl with covering := false }
          corr := k
          tracer := { s.tracer with
            slots := List.replicate 32 none, nextId := i, made := n
            lastClose := some { kind := .headFault, position := s.travel.lastLine } }
          hz := { s.hz with ownGap :=
            if s.ctl.covering = true then some (s.frontier v) else s.hz.ownGap } }.reported p
      ∧ k.gain = s.corr.gain ∧ k.dark = s.corr.dark
      ∧ k.build = if s.corr.build = .busy then .aborted else s.corr.build := by
  obtain ⟨i, n, p, e⟩ := s.closeAll_reported v .headFault
  obtain ⟨k, e₁, hgain, hbuild⟩ := abortBuild_effect (s.closeAll v .headFault)
  have hdark := abortBuild_dark (s.closeAll v .headFault)
  obtain ⟨p', e₂⟩ := coveringEnds_effect v (closed_not_inspecting hm v)
  rw [e₁] at e₂ hdark
  rw [e] at e₂ hgain hbuild hdark
  refine ⟨k, i, n, p', ?_, hgain, hdark, hbuild⟩
  unfold State.afterFault
  rw [e₁, e, e₂]
  rfl

theorem afterFault_counter :
    (s.afterFault v).counter .lineTimeout = s.counter .lineTimeout :=
  ((State.recompute_reports _).after <| (coveringTest_reports (closed_not_inspecting hm v) v).after <|
    (abortBuild_reports _).after (s.closeAll_reports v .headFault)).counter _ (by decide)

/-- The own GAP goes to a pending list with room (R121, R134). -/
theorem coveringTest_pending (hcov : s.ctl.covering = true) (hh : s.hz.horizon ≤ s.frontier v)
    (hroom : s.record.pending.length < 64) :
    .gap s.ctl.face s.ownId (s.frontier v) none ∈ (s.coveringTest v).record.pending := by
  rw [coveringTest_of_not_inspecting (hm.trans_ne (by decide)), if_pos hcov]
  exact handEntry_pending (e := .gap s.ctl.face s.ownId (s.frontier v) none) rfl hh hroom

/-- The own GAP of a node that covered stays on a pending list with room (R121). -/
theorem afterFault_pending (hset : s.ctl.setup = some v) (hcov : s.ctl.covering = true)
    (hh : s.hz.horizon ≤ s.hz.ownClearTo) (hc : s.hz.ownClearTo ≤ s.frontier v)
    (hroom : s.record.pending.length + s.tracer.slots.countP Option.isSome < 64) :
    .gap s.ctl.face s.ownId (s.frontier v) none ∈ (s.afterFault v).record.pending := by
  have hle := (closeAll_grows s v).pending_le
  obtain ⟨i, n, r, b, m, x, d, e⟩ := s.closeAll_footprint v .headFault
  obtain ⟨k, e₁, -⟩ := abortBuild_effect (s.closeAll v .headFault)
  have hgap := coveringTest_pending (s := (s.closeAll v .headFault).abortBuild)
    (by rw [e₁, e]; exact hm) v (by rw [e₁, e]; exact hcov)
    (by rw [e₁, e]; exact hh.trans hc) (by rw [e₁]; exact lt_of_le_of_lt hle hroom)
  obtain ⟨g, r', b', m', d', e₂⟩ := (s.closeAll v .headFault).abortBuild.coveringTest_footprint v
  have hgap' : .gap s.ctl.face s.ownId (s.frontier v) none
      ∈ ((s.closeAll v .headFault).abortBuild.coveringTest v).record.pending := by
    convert hgap using 2 <;> rw [e₁, e] <;> rfl
  refine recompute_pending (v := v) ?_ hgap' ?_ ?_ ?_ <;> rw [e₂, e₁, e]
  · exact hset
  · rfl
  · exact hh
  · exact hc

end

section
variable {s : State} (v : Setup)

/-- Every flag set before is set after. -/
theorem afterFault_flag {f : DiagFlag} (h : s.flag f = true) : (s.afterFault v).flag f = true := by
  have hclosed := (closeAll_reporting s v .headFault).flags f h
  obtain ⟨k, e, -⟩ := abortBuild_effect (s.closeAll v .headFault)
  have habort : ((s.closeAll v .headFault).abortBuild).flag f = true := by rw [e]; exact hclosed
  exact (recompute_reporting _).flags f ((coveringTest_reporting _ v).flags f habort)

/-- The findings of the open traces are queued and stay in the queue (R74, R80). -/
theorem afterFault_queue {x : Trace} {lo hi : Nat} {f : Finding}
    (hmem : some x ∈ s.tracer.slots) (hx : x.extent = some (lo, hi)) (hf : f = s.findingOf v x lo hi)
    (hkept : f.cls ≠ .minor ∨ f.severity ≠ 0)
    (hroom : s.xcvr.queue.length + s.tracer.slots.countP Option.isSome ≤ 16) :
    ∃ id n, s.toStrand f.test (.finding { f with
      id := id, flags := { f.flags with interrupted := true } } n) ∈ (s.afterFault v).xcvr.queue := by
  obtain ⟨id, n, h⟩ := closeAll_hands hmem hx hf hkept hroom
  refine ⟨id, n, (recompute_queue_prefix _).subset ?_⟩
  obtain ⟨k, e, -⟩ := abortBuild_effect (s.closeAll v .headFault)
  rw [coveringTest_queue, e]
  exact h

end

/-! ### The sixteenth timeout (R22, R25, R26) -/

theorem faults_of_configured {m : Mode} (h : m = .referencing ∨ m = .waiting ∨ m = .inspecting) :
    m.faults = true := by
  obtain rfl | rfl | rfl := h <;> rfl

/-- Of a line or of a readout, the sixteenth timeout in a row cuts the exchanges short, and the rest
follows. -/
theorem exec_sixteenth {dt : Nat} {s : State} {v : Setup} {c : Instr} (hr : s.resetting = none)
    (hv : s.ctl.setup = some v) (ht : s.head.timeouts = 15) (hm : s.ctl.mode.faults = true)
    (hc : c = .lineTimeout dt ∧ (∃ l ∈ s.head.line, l.requestedAt + 20 ≤ (s.begin dt).nodeTime)
      ∨ c = .readoutTimeout dt ∧ ∃ r ∈ s.head.reference, r.due ≤ (s.begin dt).nodeTime) :
    ∃ afresh, exec c s
        = .next (((s.begin dt).cutByFault v ((s.begin dt).faultCut afresh)).afterFault v)
      ∧ (c = .lineTimeout dt → afresh = false) ∧ (c = .readoutTimeout dt → afresh = true) := by
  obtain ⟨rfl, l, hl, hdue⟩ | ⟨rfl, r, href, hdue⟩ := hc
  · refine ⟨false, ?_, fun _ => rfl, nofun⟩
    rw [exec_lineTimeout_running hr, takeLineTimeout_faults (s := s.begin dt) hl hv hdue ht hm]
  · refine ⟨true, ?_, nofun, fun _ => rfl⟩
    rw [exec_readoutTimeout_running hr, takeReadoutTimeout_faults (s := s.begin dt) href hv hdue ht hm]

/-- Settles O16: the command cuts the exchanges short at the head port, by the scope of the reference
outstanding, and then closes, aborts and uncovers. -/
theorem sixteenTimeoutsEnterHeadFault : Obligations.SixteenTimeoutsEnterHeadFault := by
  intro dt now s v c hr hv ht hnow hmode hc
  subst hnow
  obtain ⟨afresh, hexec, hline, hreadout⟩ :=
    exec_sixteenth hr hv ht (faults_of_configured hmode) hc
  set cut := (s.begin dt).faultCut afresh with hcut
  set u := (s.begin dt).cutByFault v cut
  obtain ⟨k, i, n, p, e, hgain, hdark, hbuild⟩ := afterFault_writes (s := u) rfl v
  have hflag := afterFault_flag (s := u) v (f := .headFault)
    (((s.begin dt).count .lineTimeout).setFlag_flag_self .headFault)
  have hcount := afterFault_counter (s := u) rfl v
  have hpending := afterFault_pending (s := u) rfl v hv
  have hqueue := @afterFault_queue u v
  have hfrontier : (u.afterFault v).frontier v = u.frontier v := by rw [e]; rfl
  have htag : (u.afterFault v).head.tag = cut.tag := by rw [e]; rfl
  have hsent : (u.afterFault v).head.sent = cut.sent := by rw [e]; rfl
  have hsched : (u.afterFault v).sched = cut.sched := by rw [e]; rfl
  have hcorr : (u.afterFault v).corr = k := by rw [e]; rfl
  have hdark' : (u.afterFault v).corr.dark = cut.dark := (congrArg Corrector.dark hcorr).trans hdark
  refine ⟨u.afterFault v, hexec, ?_, hflag, ?_, ?_, ?_, ?_, ?_, ?_, ?_, ?_, ?_⟩
  · obtain ⟨dark, gain, build, target, lines, sums, counts⟩ := k
    obtain rfl : gain = s.corr.gain := hgain
    have hsixteen : u.head.timeouts = 16 := congrArg (· + 1) ht
    rw [e, ← hsixteen]
    rfl
  · exact hcount.trans ((s.begin dt).count_counter_self .lineTimeout)
  · rw [e]; rfl
  · rw [hcorr]; exact hbuild
  · rw [hfrontier, e]; rfl
  · intro hcov hinv hle hroom
    rw [hfrontier] at hle ⊢
    exact hpending hcov hinv hle hroom
  · intro x lo hi f hmem hx hf hkept hroom
    exact hqueue hmem hx hf hkept hroom
  · intro hnone
    rw [hsched, hdark', htag, hsent, hcut, faultCut_of_none (s := s.begin dt) hnone]
    exact ⟨rfl, rfl, rfl, rfl⟩
  · intro r i href hs
    rw [hsched, hdark', htag, hsent, hcut, faultCut_of_segment (s := s.begin dt) href hs]
    exact ⟨rfl, rfl, rfl, rfl⟩
  · intro r href hs
    obtain ⟨hfalse, htrue⟩ := faultCut_of_all (s := s.begin dt) href hs
    rw [hsched, hdark', htag, hsent, hcut]
    refine ⟨fun h => ?_, fun h => ?_, ?_⟩
    · rw [hline h, hfalse]
      exact ⟨rfl, rfl⟩
    · rw [hreadout h, htrue]
      exact ⟨rfl, rfl⟩
    · cases afresh with
      | false => rw [hfalse]; exact ⟨rfl, rfl⟩
      | true => rw [htrue]; exact ⟨rfl, rfl⟩

end Sys2Proof.Machine
end

section
/-! SUPPORT. The LUT curves (O25): the root curve is the integer square root, the log curve an eighth of the
binary logarithm; each rises from 0 to 255. -/

namespace Sys2Proof.Machine

/-! ### The root curve (R45) -/

/-- The powers of two below 2^k, largest first: the steps in which `root16` approaches the root. -/
def halvings : Nat → List Nat
  | 0 => []
  | k + 1 => 2 ^ k :: halvings k

/-- One step of the approach: `b` is added where the square stays within `n`. -/
def rootStep (n r b : Nat) : Nat := if (r + b) * (r + b) ≤ n then r + b else r

theorem root16_eq_foldl (n : Nat) : root16 n = (halvings 8).foldl (rootStep n) 0 := rfl

/-- A root known to within 2^k is found by k steps. -/
theorem foldl_halvings {n : Nat} (k : Nat) {r : Nat} (hlo : r * r ≤ n)
    (hhi : n < (r + 2 ^ k) * (r + 2 ^ k)) : (halvings k).foldl (rootStep n) r = Nat.sqrt n := by
  induction k generalizing r with
  | zero => exact Nat.eq_sqrt.mpr ⟨hlo, hhi⟩
  | succ k ih =>
    have htwice : r + 2 ^ (k + 1) = r + 2 ^ k + 2 ^ k := by rw [pow_succ]; omega
    rw [htwice] at hhi
    unfold halvings
    rw [List.foldl_cons]
    by_cases h : (r + 2 ^ k) * (r + 2 ^ k) ≤ n
    · rw [rootStep, if_pos h]
      exact ih h hhi
    · rw [rootStep, if_neg h]
      exact ih hlo (not_le.mp h)

theorem root16_eq_sqrt {n : Nat} (h : n < 2 ^ 16) : root16 n = Nat.sqrt n :=
  (root16_eq_foldl n).trans (foldl_halvings 8 (Nat.zero_le n) (by omega))

/-! ### The four curves (R45) -/

theorem score_root {c : Nat} (h : c ≤ 255) : score .root c = Nat.sqrt (255 * c) :=
  root16_eq_sqrt (by omega)

theorem score_log (c : Nat) : score .log c = Nat.log 2 ((1 + c) ^ 255) / 8 := by
  rw [score, Nat.log2_eq_log_two]

theorem score_zero (k : LutCurve) : score k 0 = 0 := by
  cases k with
  | linear => rfl
  | root => rfl
  | log => rw [score_log, Nat.add_zero, one_pow, Nat.log_one_right]
  | step => rfl

theorem score_full (k : LutCurve) : score k 255 = 255 := by
  cases k with
  | linear => rfl
  | root => rfl
  | log =>
    have hbase : 1 + 255 = 2 ^ 8 := rfl
    rw [score_log, hbase, ← pow_mul, Nat.log_pow (by decide)]
  | step => rfl

/-- No curve decreases. -/
theorem score_mono (k : LutCurve) {d c : Nat} (hdc : d ≤ c) (hc : c ≤ 255) : score k d ≤ score k c := by
  cases k with
  | linear => exact hdc
  | root =>
    rw [score_root hc, score_root (hdc.trans hc)]
    exact Nat.sqrt_le_sqrt (Nat.mul_le_mul_left 255 hdc)
  | log =>
    rw [score_log, score_log]
    exact Nat.div_le_div_right
      (Nat.log_mono_right (Nat.pow_le_pow_left (Nat.add_le_add_left hdc 1) 255))
  | step => exact Nat.div_le_div_right (Nat.mul_le_mul_left 255 (Nat.div_le_div_right hdc))

theorem score_le_255 (k : LutCurve) {c : Nat} (h : c ≤ 255) : score k c ≤ 255 :=
  (score_mono k h le_rfl).trans (score_full k).le

theorem score_log_bounds (c : Nat) :
    2 ^ (8 * score .log c) ≤ (1 + c) ^ 255 ∧ (1 + c) ^ 255 < 2 ^ (8 * (score .log c + 1)) := by
  rw [score_log]
  have hlo : 8 * (Nat.log 2 ((1 + c) ^ 255) / 8) ≤ Nat.log 2 ((1 + c) ^ 255) := by omega
  have hhi : Nat.log 2 ((1 + c) ^ 255) + 1 ≤ 8 * (Nat.log 2 ((1 + c) ^ 255) / 8 + 1) := by omega
  constructor
  · exact (Nat.pow_le_pow_right (by decide) hlo).trans
      (Nat.pow_log_le_self 2 (Nat.pow_pos (by omega)).ne')
  · exact (Nat.lt_pow_succ_log_self (by decide) _).trans_le (Nat.pow_le_pow_right (by decide) hhi)

/-- Settles O25. -/
theorem scoreFollowsTheLutCurve : Obligations.ScoreFollowsTheLutCurve := by
  intro c hc
  obtain ⟨hloglo, hloghi⟩ := score_log_bounds c
  have hstep : score .step c = 255 * (c / 32) / 7 := rfl
  refine ⟨rfl, ?_, ?_, hloglo, hloghi, by omega, by omega,
    fun k => ⟨score_zero k, score_full k, fun d hd => score_mono k hd hc⟩⟩
  · rw [score_root hc]
    exact Nat.sqrt_le' _
  · rw [score_root hc]
    exact Nat.lt_succ_sqrt' _

end Sys2Proof.Machine
end

section
/-! SUPPORT. The runs of a line (O26): the scan from left to right finds the maximal stretches of columns at
or above the run threshold. -/

namespace Sys2Proof.Machine

/-! ### What a run is (R47) -/

/-- A run of these scores at or above `t`: every column from its start to its end has such a score, and the
highest is its peak. -/
structure Run.Fits (scores : Columns) (t : Nat) (r : Run) : Prop where
  le : r.lo ≤ r.hi
  high : ∀ q, r.lo ≤ q → q ≤ r.hi → ∃ x, scores[q]? = some (some x) ∧ t ≤ x ∧ x ≤ r.peak
  peak : ∃ q, r.lo ≤ q ∧ q ≤ r.hi ∧ scores[q]? = some (some r.peak)

/-- The run of one column. -/
theorem Run.Fits.single {scores : Columns} {t p x : Nat} (h : scores[p]? = some (some x)) (hx : t ≤ x) :
    Run.Fits scores t { lo := p, hi := p, peak := x } where
  le := le_rfl
  high q hlo hhi := by
    obtain rfl := le_antisymm hhi hlo
    exact ⟨x, h, hx, le_rfl⟩
  peak := ⟨p, le_rfl, le_rfl, h⟩

/-- A run grows by the column after its end. -/
theorem Run.Fits.grow {scores : Columns} {t x : Nat} {r : Run} (hr : r.Fits scores t)
    (h : scores[r.hi + 1]? = some (some x)) (hx : t ≤ x) :
    Run.Fits scores t { r with hi := r.hi + 1, peak := max r.peak x } where
  le := hr.le.trans (Nat.le_succ _)
  high q hlo hhi := by
    obtain hq | rfl := Nat.le_succ_iff.mp hhi
    · obtain ⟨y, hy, hty, hyr⟩ := hr.high q hlo hq
      exact ⟨y, hy, hty, le_max_of_le_left hyr⟩
    · exact ⟨x, h, hx, le_max_right _ _⟩
  peak := by
    obtain ⟨q, hlo, hhi, hq⟩ := hr.peak
    obtain hmax | hmax := max_choice r.peak x
    · exact ⟨q, hlo, hhi.trans (Nat.le_succ _), by rw [hmax]; exact hq⟩
    · exact ⟨r.hi + 1, hr.le.trans (Nat.le_succ _), le_rfl, by rw [hmax]; exact h⟩

/-! ### The scan -/

/-- The runs of the scores from column `start` on: they fit, leave no high column out, ascend and do not
adjoin. -/
structure RunsOf (scores : Columns) (t start : Nat) (runs : List Run) : Prop where
  fits : ∀ r ∈ runs, r.Fits scores t
  from_start : ∀ r ∈ runs, start ≤ r.lo
  cover : ∀ q x, start ≤ q → scores[q]? = some (some x) → t ≤ x → ∃ r ∈ runs, r.lo ≤ q ∧ q ≤ r.hi
  apart : runs.Pairwise fun a b => a.hi + 1 < b.lo

/-- Where the runs that the scan still lists begin: at the start of the run it is in, or at its column. -/
def scanStart (p : Nat) : Option Run → Nat
  | none => p
  | some r => r.lo

/-- A column that is not high ends the run the scan is in. -/
theorem RunsOf.close {scores : Columns} {t p : Nat} {current : Option Run} {runs : List Run}
    (hc : ∀ r ∈ current, r.Fits scores t ∧ r.hi + 1 = p)
    (hp : ∀ x, scores[p]? = some (some x) → ¬ t ≤ x) (h : RunsOf scores t (p + 1) runs) :
    RunsOf scores t (scanStart p current) (current.toList ++ runs) := by
  have hcover : ∀ q x, p ≤ q → scores[q]? = some (some x) → t ≤ x →
      ∃ r ∈ runs, r.lo ≤ q ∧ q ≤ r.hi := fun q x hq hx ht => by
    obtain rfl | hlt := hq.eq_or_lt
    · exact absurd ht (hp x hx)
    · exact h.cover q x hlt hx ht
  cases current with
  | none =>
    exact ⟨h.fits, fun r hr => (Nat.le_succ p).trans (h.from_start r hr), hcover, h.apart⟩
  | some c =>
    obtain ⟨hfit, rfl⟩ := hc c rfl
    refine ⟨?_, ?_, ?_, ?_⟩
    · exact List.forall_mem_cons.mpr ⟨hfit, h.fits⟩
    · have := hfit.le
      exact List.forall_mem_cons.mpr
        ⟨le_rfl, fun r hr => by have := h.from_start r hr; simp only [scanStart]; omega⟩
    · intro q x hq hx ht
      by_cases hin : q ≤ c.hi
      · exact ⟨c, List.mem_cons_self, hq, hin⟩
      · obtain ⟨r, hr, hrq⟩ := hcover q x (by omega) hx ht
        exact ⟨r, List.mem_cons_of_mem c hr, hrq⟩
    · exact List.pairwise_cons.mpr ⟨fun r hr => h.from_start r hr, h.apart⟩

/-- After the last column no high column follows. -/
theorem RunsOf.nil {scores : Columns} {t p : Nat} (h : ∀ q, p ≤ q → scores[q]? = none) :
    RunsOf scores t p [] :=
  ⟨List.forall_mem_nil _, List.forall_mem_nil _,
    fun q _ hq hx => absurd (hx.symm.trans (h q hq)) nofun, List.Pairwise.nil⟩

theorem runsFrom_runsOf {scores : Columns} {t : Nat} (rest : Columns) {p : Nat} {current : Option Run}
    (hrest : ∀ i, rest[i]? = scores[p + i]?) (hc : ∀ r ∈ current, r.Fits scores t ∧ r.hi + 1 = p) :
    RunsOf scores t (scanStart p current) (runsFrom t p current rest) := by
  induction rest generalizing p current with
  | nil =>
    have hend : ∀ q, p ≤ q → scores[q]? = none := fun q hq => by
      rw [← Nat.add_sub_cancel' hq, ← hrest]; rfl
    have h := RunsOf.close hc (fun x hx => by rw [hend p le_rfl] at hx; exact nomatch hx)
      (RunsOf.nil fun q hq => hend q (Nat.le_of_succ_le hq))
    rwa [List.append_nil] at h
  | cons c rest ih =>
    have hhead : scores[p]? = some c := (hrest 0).symm
    have htail : ∀ i, rest[i]? = scores[p + 1 + i]? := fun i => by
      rw [Nat.add_right_comm, Nat.add_assoc, ← hrest (i + 1)]; rfl
    cases c with
    | none =>
      exact .close hc (fun x hx => absurd (hhead.symm.trans hx) nofun)
        (ih (current := none) htail nofun)
    | some x =>
      unfold runsFrom
      by_cases hx : t ≤ x
      · rw [if_pos hx]
        cases current with
        | none =>
          exact ih (current := some { lo := p, hi := p, peak := x }) htail
            fun u hu => by cases hu; exact ⟨.single hhead hx, rfl⟩
        | some r =>
          obtain ⟨hfit, rfl⟩ := hc r rfl
          exact ih (current := some { r with hi := r.hi + 1, peak := max r.peak x }) htail
            fun u hu => by cases hu; exact ⟨hfit.grow hhead hx, rfl⟩
      · rw [if_neg hx]
        refine .close hc (fun y hy => ?_) (ih (current := none) htail nofun)
        rw [hhead] at hy
        cases hy
        exact hx

/-! ### The runs of a line (R47) -/

/-- The scores of a line, by its contrasts (R45). -/
def scoresOf (v : Setup) (cols : Columns) : Columns := cols.map fun c => c.map (score v.lutCurve)

theorem scoresOf_eq_some {v : Setup} {cols : Columns} {p y : Nat} :
    (scoresOf v cols)[p]? = some (some y)
      ↔ ∃ x, cols[p]? = some (some x) ∧ score v.lutCurve x = y := by
  simp [scoresOf, List.getElem?_map]

theorem lineRuns_runsOf (v : Setup) (cols : Columns) :
    RunsOf (scoresOf v cols) v.runThreshold 0 (lineRuns v cols) :=
  runsFrom_runsOf (scores := scoresOf v cols) (current := none) (scoresOf v cols)
    (fun i => by rw [Nat.zero_add]) nofun

/-- The runs of a line are stretches of its columns. -/
theorem lineRuns_within (v : Setup) (cols : Columns) {r : Run} (hr : r ∈ lineRuns v cols) :
    r.lo ≤ r.hi ∧ r.hi < cols.length := by
  have hfit := (lineRuns_runsOf v cols).fits r hr
  obtain ⟨y, hy, -, -⟩ := hfit.high r.hi hfit.le le_rfl
  obtain ⟨x, hx, -⟩ := scoresOf_eq_some.mp hy
  exact ⟨hfit.le, (List.getElem?_eq_some_iff.mp hx).1⟩

/-- Settles O26: the scan lists the runs of the scores from column 0 on. -/
theorem runsAreMaximalStretches : Obligations.RunsAreMaximalStretches := by
  rintro v cols runs - hcols rfl
  have h := lineRuns_runsOf v cols
  refine ⟨fun p => ⟨?_, ?_⟩, h.apart, fun r hr => ?_⟩
  · rintro ⟨r, hr, hlo, hhi⟩
    obtain ⟨y, hy, hty, -⟩ := (h.fits r hr).high p hlo hhi
    obtain ⟨x, hx, rfl⟩ := scoresOf_eq_some.mp hy
    exact ⟨x, hx, hty⟩
  · rintro ⟨x, hx, ht⟩
    exact h.cover p _ (Nat.zero_le p) (scoresOf_eq_some.mpr ⟨x, hx, rfl⟩) ht
  · obtain ⟨hle, hhigh, q, hlo, hhi, hq⟩ := h.fits r hr
    obtain ⟨x, hx, hpeak⟩ := scoresOf_eq_some.mp hq
    obtain ⟨y, hy, hty, -⟩ := hhigh q hlo hhi
    obtain rfl : y = r.peak := by rw [hq] at hy; cases hy; rfl
    refine ⟨hle, hty, hpeak ▸ score_le_255 _ (hcols q x hx), ⟨q, x, hlo, hhi, hx, hpeak⟩, ?_⟩
    intro p z hlo hhi hz
    obtain ⟨y, hy, -, hyr⟩ := hhigh p hlo hhi
    rw [scoresOf_eq_some.mpr ⟨z, hz, rfl⟩] at hy
    cases hy
    exact hyr

end Sys2Proof.Machine
end

section
/-! SUPPORT. Correction, background and contrast of a line column by column (O27), and how many columns a
line has. -/

namespace Sys2Proof.Machine

/-! ### Corrected values (R41, R42) -/

/-- The corrected value of a column, absent in a blind one. -/
def correctedAt (blind : SegMask) (raw dark gain : List Nat) (q : Nat) : Option Nat :=
  if blind.getLsbD (q / 256) then none
  else some (correct (raw.getD q 0) (dark.getD q 0) (gain.getD q 0))

theorem correctFrom_getElem? (blind : SegMask) {raw dark gain : List Nat} (hd : dark.length = raw.length)
    (hg : gain.length = raw.length) (p : Nat) {q : Nat} (hq : q < raw.length) :
    (correctFrom blind p raw dark gain)[q]? = some (if blind.getLsbD ((p + q) / 256) then none
      else some (correct (raw.getD q 0) (dark.getD q 0) (gain.getD q 0))) := by
  induction raw generalizing dark gain p q with
  | nil => exact absurd hq (Nat.not_lt_zero _)
  | cons r raw ih =>
    match dark, gain, hd, hg with
    | d :: dark, g :: gain, hd, hg =>
      cases q with
      | zero => rfl
      | succ q =>
        have hpq : p + (q + 1) = p + 1 + q := by omega
        rw [hpq]
        exact ih (Nat.succ.inj hd) (Nat.succ.inj hg) (p + 1) (Nat.lt_of_succ_lt_succ hq)

theorem length_correctFrom_le (blind : SegMask) (p : Nat) (raw dark gain : List Nat) :
    (correctFrom blind p raw dark gain).length ≤ raw.length := by
  induction raw generalizing p dark gain with
  | nil => exact Nat.le_refl 0
  | cons r raw ih =>
    match dark, gain with
    | [], _ => exact Nat.zero_le _
    | _ :: _, [] => exact Nat.zero_le _
    | d :: dark, g :: gain => exact Nat.succ_le_succ (ih (p + 1) dark gain)

theorem length_correctFrom (blind : SegMask) {raw dark gain : List Nat} (hd : dark.length = raw.length)
    (hg : gain.length = raw.length) (p : Nat) :
    (correctFrom blind p raw dark gain).length = raw.length := by
  refine (length_correctFrom_le _ _ _ _ _).antisymm (not_lt.mp fun h => ?_)
  have hsome := correctFrom_getElem? blind hd hg p h
  rw [List.getElem?_eq_none le_rfl] at hsome
  exact nomatch hsome

/-- Column by column. -/
theorem correctFrom_eq_map (blind : SegMask) {raw dark gain : List Nat} {n : Nat} (hr : raw.length = n)
    (hd : dark.length = n) (hg : gain.length = n) :
    correctFrom blind 0 raw dark gain = (List.range n).map (correctedAt blind raw dark gain) := by
  subst hr
  refine eq_map_range (length_correctFrom blind hd hg 0) none fun q hq => ?_
  rw [List.getD_eq_getElem?_getD, correctFrom_getElem? blind hd hg 0 hq, Nat.zero_add]
  rfl

/-! ### Background (R43) -/

theorem length_withBackground (behind cols : Columns) :
    (withBackground behind cols).length = cols.length := by
  induction cols generalizing behind with
  | nil => rfl
  | cons c cols ih => exact congrArg (· + 1) (ih (c :: behind))

/-- The window of a column: at most 15 before it, nearest first, the column, and at most 15 after it. -/
theorem withBackground_getElem? (behind cols : Columns) {p : Nat} {c : Option Nat}
    (h : cols[p]? = some c) :
    (withBackground behind cols)[p]? = some (c.map fun x =>
      (meanOf (((cols.take p).reverse ++ behind).take 15 ++ c :: (cols.drop (p + 1)).take 15), x)) := by
  induction cols generalizing behind p with
  | nil => exact nomatch h
  | cons d cols ih =>
    cases p with
    | zero =>
      cases h
      rfl
    | succ p =>
      have hbehind : ((d :: cols).take (p + 1)).reverse ++ behind
          = (cols.take p).reverse ++ d :: behind := by simp
      rw [hbehind]
      exact ih (d :: behind) h

/-- But for its order the window is the stretch of columns from p - 15 to p + 15 within the line. -/
theorem window_perm {cols : Columns} {p : Nat} {c : Option Nat} (h : cols[p]? = some c) :
    ((cols.take p).reverse.take 15 ++ c :: (cols.drop (p + 1)).take 15).Perm
      ((cols.take (p + 16)).drop (p - 15)) := by
  obtain ⟨hp, rfl⟩ := List.getElem?_eq_some_iff.mp h
  have hlen : (cols.take p).length = p := List.length_take_of_le hp.le
  have hahead : (cols.drop p).take 16 = cols[p] :: (cols.drop (p + 1)).take 15 := by
    rw [List.drop_eq_getElem_cons hp, List.take_succ_cons]
  rw [List.take_add, hahead, List.drop_append_of_le_length (hlen.symm ▸ Nat.sub_le p 15),
    List.take_reverse, hlen]
  exact (List.reverse_perm _).append_right _

theorem meanOf_perm {a b : Columns} (h : a.Perm b) : meanOf a = meanOf b := by
  have hvalues := h.filterMap id
  unfold meanOf
  dsimp only
  rw [hvalues.sum_eq, hvalues.length_eq]

/-- A stretch of the columns of a line. -/
theorem range_filter_stretch (a b n : Nat) :
    (List.range n).filter (fun q => decide (a ≤ q) && decide (q < b))
      = ((List.range n).take b).drop a := by
  induction n with
  | zero => simp
  | succ n ih =>
    have hlast : ((List.range n ++ [n]).take b).drop a
        = ((List.range n).take b).drop a ++ if a ≤ n ∧ n < b then [n] else [] := by
      rw [List.take_append, List.drop_append, List.length_take, List.length_range]
      by_cases hb : n < b
      · rw [List.take_of_length_le (l := [n]) (by simp; omega), min_eq_right hb.le]
        by_cases ha : a ≤ n
        · rw [if_pos ⟨ha, hb⟩, Nat.sub_eq_zero_of_le ha, List.drop_zero]
        · rw [if_neg (fun h => ha h.1), List.drop_of_length_le (l := [n]) (by simp; omega)]
      · rw [if_neg (fun h => hb h.2), Nat.sub_eq_zero_of_le (not_lt.mp hb), List.take_zero, List.drop_nil]
    rw [List.range_succ, hlast, ← ih, List.filter_append]
    simp [List.filter_singleton]

/-- The mean over a stretch of columns, by their values where they are present. -/
theorem meanOf_map_filter {α : Type*} (l : List α) (absent : α → Bool) (value : α → Nat) :
    meanOf (l.map fun q => if absent q then none else some (value q))
      = ((l.filter fun q => !absent q).map value).sum / (l.filter fun q => !absent q).length := by
  have hvalues : (l.map fun q => if absent q then none else some (value q)).filterMap id
      = (l.filter fun q => !absent q).map value := by
    induction l with
    | nil => rfl
    | cons q l ih => cases hq : absent q <;> simp_all
  unfold meanOf
  dsimp only
  rw [hvalues, List.length_map]

/-! ### Contrasts (R44) -/

/-- A line has no more contrasts than raw values or columns. -/
theorem length_lineContrasts_le (v : Setup) (blind : SegMask) (position : Int) {raw : List Nat}
    (hr : raw.length = 2048) (dark gain : List Nat) :
    (lineContrasts v blind position raw dark gain).length ≤ 2048 := by
  unfold lineContrasts
  split
  · unfold syntheticContrasts
    rw [List.length_map, List.length_range, Config.columns]
  · rw [List.length_map, length_withBackground]
    exact (length_correctFrom_le _ _ _ _ _).trans hr.le

/-- Settles O27: the column's window is a stretch of the corrected columns, listed nearest first. -/
theorem contrastsAreTakenAgainstTheBackground : Obligations.ContrastsAreTakenAgainstTheBackground := by
  intro v blind position raw dark gain p corrected window hsyn hr hd hg hp hcorr hwindow
  have hcols := correctFrom_eq_map blind hr hd hg
  have hcol : correctedAt blind raw dark gain
      = fun q => if blind.getLsbD (q / 256) then none else some (corrected q) := by
    funext q
    rw [hcorr q]
    rfl
  have hcolp : (correctFrom blind 0 raw dark gain)[p]?
      = some (if blind.getLsbD (p / 256) then none else some (corrected p)) := by
    rw [hcols, hcol, List.getElem?_map, List.getElem?_range hp]
    rfl
  have hslots : window = (((List.range 2048).take (p + 16)).drop (p - 15)).filter
      fun q => !blind.getLsbD (q / 256) := by
    rw [← range_filter_stretch, List.filter_filter, hwindow]
    refine List.filter_congr fun q _ => ?_
    have hlo : p ≤ q + 15 ↔ p - 15 ≤ q := by omega
    have hhi : q ≤ p + 15 ↔ q < p + 16 := by omega
    rw [decide_eq_decide.mpr hlo, decide_eq_decide.mpr hhi, Bool.and_comm]
  have hmean : meanOf ((correctFrom blind 0 raw dark gain).take (p + 16) |>.drop (p - 15))
      = (window.map corrected).sum / window.length := by
    rw [hslots, hcols, hcol, ← List.map_take, ← List.map_drop, meanOf_map_filter]
  have hback := withBackground_getElem? [] _ hcolp
  rw [List.append_nil, meanOf_perm (window_perm hcolp), hmean] at hback
  unfold lineContrasts
  rw [hsyn, if_neg Bool.false_ne_true, List.getElem?_map, hback]
  cases blind.getLsbD (p / 256) with
  | true => rfl
  | false => cases hpol : v.polarity <;> simp [contrast]

end Sys2Proof.Machine
end

section
/-! SUPPORT. Frames from stations (O45): BUILD, and STATUS-REQ with its reply of 60 bytes. -/

namespace Sys2Proof.Machine

/-! ### The length of a STATUS body (R203) -/

theorem length_bytesBE (n v : Nat) : (bytesBE n v).length = n := by
  induction n generalizing v with
  | zero => rfl
  | succ n ih => rw [bytesBE, List.length_append, ih, List.length_singleton]

theorem length_counterBytes (counters : List Nat) :
    ((counters.map (bytesBE 2)).flatten).length = 2 * counters.length := by
  induction counters with
  | nil => rfl
  | cons c counters ih =>
    rw [List.map_cons, List.flatten_cons, List.length_append, ih, length_bytesBE, List.length_cons]
    omega

theorem length_statusBytes (s : State) : s.statusBytes.length = 60 := by
  simp only [State.statusBytes, List.length_append, List.length_cons, List.length_nil, length_bytesBE,
    length_counterBytes, Vector.length_toList]

/-! ### The two commands -/

/-- The command that ends a frame of class BUILD, once it has passed every check. -/
theorem exec_buildFrame_passed {s : State} {f : RxFrame} {h : FrameHead} {body : List Byte}
    (hp : Passes s .build f h body) (dt : Nat) :
    exec (.buildFrame dt f) s = .next ((s.frameOver dt).acceptBuild (fieldAt body 0 1)) := by
  obtain ⟨hear, hq⟩ := hp
  have hq' : ((s.begin dt).load f).qualify .build = .passed h body := hq
  calc exec (.buildFrame dt f) s
      = .next ((s.begin dt).receive .build f State.takeBuildFrame) := event_running hear.1 dt _
    _ = _ := by rw [receive_hearing hear, hq']; rfl

theorem exec_statusReqFrame_passed {s : State} {f : RxFrame} {h : FrameHead} {body : List Byte}
    (hp : Passes s .statusReq f h body) (dt : Nat) :
    exec (.statusReqFrame dt f) s = .next (State.takeStatusReqFrame h body (s.frameOver dt)) := by
  obtain ⟨hear, hq⟩ := hp
  have hq' : ((s.begin dt).load f).qualify .statusReq = .passed h body := hq
  calc exec (.statusReqFrame dt f) s
      = .next ((s.begin dt).receive .statusReq f State.takeStatusReqFrame) := event_running hear.1 dt _
    _ = _ := by rw [receive_hearing hear, hq']

/-- Outside UNSTRAPPED a STATUS-REQ is answered, and its clear bit clears the flags where the reply found
room (R202). -/
theorem takeStatusReqFrame_of_strapped {s : State} (hm : s.ctl.mode ≠ .unstrapped) (h : FrameHead)
    (body : List Byte) :
    State.takeStatusReqFrame h body s
      = if fieldAt body 0 1 = 1 ∧ s.xcvr.queue.length < 16
        then (s.handFrame (s.statusFrame h.sender)).clearFlags
        else s.handFrame (s.statusFrame h.sender) := by
  have hroom : s.queueFull = false ↔ s.xcvr.queue.length < 16 :=
    decide_eq_false_iff_not.trans not_le
  unfold State.takeStatusReqFrame
  rw [if_neg hm]
  dsimp only
  simp only [hroom]

/-- Settles O45. -/
theorem stationFramesAreAnswered : Obligations.StationFramesAreAnswered := by
  intro dt s u f h body
  refine ⟨fun hp => exec_buildFrame_passed hp dt, fun hp hm hu => ⟨?_, length_statusBytes _⟩⟩
  subst hu
  rw [exec_statusReqFrame_passed hp, takeStatusReqFrame_of_strapped (s := s.frameOver dt) hm]
  rfl

end Sys2Proof.Machine
end

section
/-! SUPPORT. What the trace invariant speaks of, setup, trace table and awaiting lines, is left alone by every
operation but the tracer's own, the corrector's hand-off, SETUP and the end of a reset. -/

namespace Sys2Proof.Machine

/-- Setup, trace table and the lines that await the tracer. -/
def State.traces (s : State) : Option Setup × List (Option Trace) × List ProcessedLine :=
  (s.ctl.setup, s.tracer.slots, s.tracer.awaiting)

theorem TraceInv.of_traces {s t : State} (h : TraceInv s) (e : t.traces = s.traces) : TraceInv t := by
  simp only [State.traces, Prod.mk.injEq] at e
  obtain ⟨hv, hs, ha⟩ := e
  unfold TraceInv
  rw [hv, hs, ha]
  exact h

/-! ### Reports to other blocks -/

@[simp] theorem traces_setFlag (s : State) (f : DiagFlag) : (s.setFlag f).traces = s.traces := rfl

@[simp] theorem traces_count (s : State) (c : Counter) : (s.count c).traces = s.traces := rfl

@[simp] theorem traces_setPeer (s : State) (p : Peer) : (s.setPeer p).traces = s.traces := rfl

@[simp] theorem traces_addPeer (s : State) (p : Peer) : (s.addPeer p).traces = s.traces := rfl

@[simp] theorem traces_handFrame (s : State) (f : TxFrame) : (s.handFrame f).traces = s.traces := by
  obtain ⟨x, d, h⟩ := s.handFrame_footprint f
  rw [h]; rfl

@[simp] theorem traces_markMove (s : State) (dir : Direction) (before : Int) :
    (s.markMove dir before).traces = s.traces := by
  obtain ⟨m, d, h⟩ := s.markMove_footprint dir before
  rw [h]; rfl

@[simp] theorem traces_handEntry (s : State) (e : Entry) : (s.handEntry e).traces = s.traces := by
  obtain ⟨r, b, m, d, h⟩ := s.handEntry_footprint e
  rw [h]; rfl

@[simp] theorem traces_closeGap (s : State) (face subject : Nat) (start stop : Int) :
    (s.closeGap face subject start stop).traces = s.traces := by
  obtain ⟨r, h⟩ := s.closeGap_footprint face subject start stop
  rw [h]; rfl

@[simp] theorem traces_verdictDecision (s : State) (v : Setup) :
    (s.verdictDecision v).traces = s.traces := by
  obtain ⟨b, x, d, h⟩ := s.verdictDecision_footprint v
  rw [h]; rfl

@[simp] theorem traces_takeCut (s : State) (v : Setup) (received : Bool) (number : Nat)
    (position : Int) : (s.takeCut v received number position).traces = s.traces := by
  obtain ⟨r, b, x, d, c, h⟩ := s.takeCut_footprint v received number position
  rw [h]; rfl

@[simp] theorem traces_hearVerdict (s : State) (heard : Verdict) :
    (s.hearVerdict heard).traces = s.traces := by
  obtain ⟨b, d, h⟩ := s.hearVerdict_footprint heard
  rw [h]; rfl

@[simp] theorem traces_recomputeHorizon (s : State) (v : Setup) :
    (s.recomputeHorizon v).traces = s.traces := by
  obtain ⟨r, b, m, x, d, h⟩ := s.recomputeHorizon_footprint v
  rw [h]; rfl

@[simp] theorem traces_recompute (s : State) : s.recompute.traces = s.traces := by
  obtain ⟨p, h⟩ := s.recompute_reported
  rw [h]; rfl

@[simp] theorem traces_recomputeIfMoved (s old : State) :
    (s.recomputeIfMoved old).traces = s.traces := by
  obtain ⟨p, h⟩ := s.recomputeIfMoved_reported old
  rw [h]; rfl

@[simp] theorem traces_openOwnGap (s : State) (v : Setup) : (s.openOwnGap v).traces = s.traces := by
  obtain ⟨r, b, m, d, h⟩ := s.openOwnGap_footprint v
  rw [h]; rfl

@[simp] theorem traces_coveringTest (s : State) (v : Setup) :
    (s.coveringTest v).traces = s.traces := by
  obtain ⟨g, r, b, m, d, h⟩ := s.coveringTest_footprint v
  rw [h]; rfl

/-! ### Reference scheduler, builds, lines asked for -/

@[simp] theorem traces_dueTest (s : State) : s.dueTest.traces = s.traces := by
  obtain ⟨h, c, e⟩ := s.dueTest_footprint
  rw [e]; rfl

@[simp] theorem traces_lineBoundary (s : State) (v : Setup) :
    (s.lineBoundary v).traces = s.traces := by
  obtain ⟨h, c, e⟩ := s.lineBoundary_footprint v
  rw [e]; rfl

@[simp] theorem traces_startAll (s : State) : s.startAll.traces = s.traces := by
  obtain ⟨h, c, k, e⟩ := s.startAll_footprint
  rw [e]; rfl

@[simp] theorem traces_truncateByFault (s : State) : s.truncateByFault.traces = s.traces := by
  obtain ⟨h, c, k, e⟩ := s.truncateByFault_footprint
  rw [e]; rfl

@[simp] theorem traces_truncateCycle (s : State) (i : Fin 8) (n : Nat) :
    (s.truncateCycle i n).traces = s.traces := by
  unfold State.truncateCycle
  obtain ⟨h, e⟩ := s.stopReference_footprint
  rw [e]
  dsimp only
  split <;> rfl

@[simp] theorem traces_renewRequest (s : State) (n : Nat) : (s.renewRequest n).traces = s.traces := rfl

@[simp] theorem traces_abortBuild (s : State) : s.abortBuild.traces = s.traces := by
  obtain ⟨k, h⟩ := s.abortBuild_footprint
  rw [h]; rfl

@[simp] theorem traces_completeBuild (s : State) : s.completeBuild.traces = s.traces := by
  obtain ⟨k, n, h⟩ := s.completeBuild_footprint
  rw [h]; rfl

@[simp] theorem traces_lineDue (s : State) (v : Setup) : (s.lineDue v).traces = s.traces := by
  obtain ⟨g, l, m, k, d, h⟩ := s.lineDue_footprint v
  rw [h]; rfl

/-! ### Head port and modes -/

theorem traces_takeStale (s : State) : s.takeStale.traces = s.traces := by
  unfold State.takeStale
  split <;> rfl

theorem traces_recover (s : State) : s.recover.traces = s.traces := by
  unfold State.recover
  rw [traces_recompute, traces_startAll]
  rfl

@[simp] theorem traces_abandonNoted (s : State) (v : Setup) :
    (s.abandonNoted v).traces = s.traces := by
  unfold State.abandonNoted
  split <;> rfl

@[simp] theorem traces_discardLine (s : State) (v : Setup) (line : ProcessedLine) :
    (s.discardLine v line).traces = s.traces := by
  unfold State.discardLine
  split <;> rfl

@[simp] theorem traces_enterInspecting (s : State) (v : Setup) :
    (s.enterInspecting v).traces = s.traces := by
  unfold State.enterInspecting
  rw [traces_recompute, traces_coveringTest]
  rfl

theorem traces_referenceDone (s : State) (v : Setup) : (s.referenceDone v).traces = s.traces := by
  unfold State.referenceDone
  split
  · exact traces_enterInspecting s v
  · exact traces_recompute _

theorem traces_takeReadoutTag (s : State) (tag : BitVec 8) (raw : List (BitVec 12)) :
    (s.takeReadoutTag tag raw).traces = s.traces := by
  have hfull : ∀ (u : State) (scope : Scope), (u.referenceFull scope).traces = u.traces := by
    intro u scope
    unfold State.referenceFull
    dsimp only
    split
    · exact traces_dueTest _
    · split
      · rfl
      · exact traces_referenceDone _ _
  unfold State.takeReadoutTag
  split
  · unfold State.takeReadout
    dsimp only
    split
    · exact hfull _ _
    · rfl
  · exact traces_takeStale s

theorem traces_takeProbeTimer (s : State) : s.takeProbeTimer.traces = s.traces := by
  unfold State.takeProbeTimer
  split
  · rfl
  · split
    · dsimp only
      split <;> rfl
    · rfl

theorem traces_takeProbeTimeout (s : State) : s.takeProbeTimeout.traces = s.traces := by
  unfold State.takeProbeTimeout
  split <;> rfl

theorem traces_takeTick (s : State) : s.takeTick.traces = s.traces := by
  unfold State.takeTick
  split
  · split
    · exact traces_dueTest _
    · rfl
  · rfl

/-! ### Travel unit -/

@[simp] theorem traces_raiseHighWater (s : State) (v : Setup) :
    (s.raiseHighWater v).traces = s.traces := by
  unfold State.raiseHighWater
  split <;> rfl

@[simp] theorem traces_positionChanged (s : State) : s.positionChanged.traces = s.traces := by
  unfold State.positionChanged
  split
  · rfl
  · rw [traces_lineDue, traces_raiseHighWater]

theorem traces_moveCount (s : State) (dir : Direction) (step : Int) :
    (s.moveCount dir step).traces = s.traces := by
  by_cases hc : s.countAfter step = s.travel.count
  · rw [State.moveCount_of_eq hc]
  · rw [State.moveCount_of_ne hc, traces_recomputeIfMoved, traces_markMove]
    split
    · rfl
    · exact traces_positionChanged _

theorem traces_takePair (s : State) (a b : Bool) : (s.takePair a b).traces = s.traces := by
  unfold State.takePair
  dsimp only
  split
  · rfl
  · rfl
  · exact traces_moveCount _ _ _
  · exact traces_moveCount _ _ _

theorem traces_takeRise (s : State) : s.takeRise.traces = s.traces := by
  unfold State.takeRise
  split
  · rfl
  · dsimp only
    split
    · rfl
    · split
      · exact traces_enterInspecting _ _
      · rfl

theorem traces_takeFall (s : State) : s.takeFall.traces = s.traces := by
  unfold State.takeFall
  split
  · rfl
  · split <;> rfl

theorem traces_takeGate (s : State) (high : Bool) : (s.takeGate high).traces = s.traces := by
  unfold State.takeGate
  dsimp only
  split
  · rfl
  · split
    · rfl
    · split
      · rw [traces_recomputeIfMoved, traces_coveringTest, traces_lineDue]
        rfl
      · rfl

theorem traces_takeCutLevel (s : State) (high : Bool) : (s.takeCutLevel high).traces = s.traces := by
  have hcut : ∀ (u : State) (v : Setup) (p : Int), (u.takeCandidate v p).traces = u.traces := by
    intro u v p
    unfold State.takeCandidate
    split
    · rfl
    · split
      · rfl
      · rw [traces_takeCut, traces_handFrame]
        rfl
  unfold State.takeCutLevel
  dsimp only
  split
  · rfl
  · split
    · exact hcut _ _ _
    · rfl

/-! ### The sending side -/

theorem traces_tryToSend (s : State) : s.tryToSend.traces = s.traces := by
  unfold State.tryToSend
  split
  · split <;> rfl
  · rfl

theorem traces_loseArbitration (s : State) : s.loseArbitration.traces = s.traces := by
  unfold State.loseArbitration
  split <;> rfl

theorem traces_reportDrop (s : State) (body : TxBody) : (s.reportDrop body).traces = s.traces := by
  cases body with
  | finding f n => exact traces_recompute s
  | _ => rfl

theorem traces_collide (s : State) : s.collide.traces = s.traces := by
  unfold State.collide
  split
  · dsimp only
    split
    · rfl
    · split
      · rfl
      · exact traces_reportDrop _ _
  · rfl

theorem traces_deliverNote (s : State) : s.deliverNote.traces = s.traces := by
  unfold State.deliverNote
  split
  · rfl
  · exact (traces_recompute _).trans (traces_handEntry _ _)

theorem traces_reportSent (s : State) (body : TxBody) (clearTo : Option Int) :
    (s.reportSent body clearTo).traces = s.traces := by
  cases body with
  | finding f n => exact traces_recompute s
  | horizon =>
    unfold State.reportSent State.horizonSent
    dsimp only
    split
    · rfl
    · exact traces_deliverNote _
  | _ => rfl

theorem traces_sentWhole (s : State) : s.sentWhole.traces = s.traces := by
  unfold State.sentWhole
  split
  · dsimp only
    split
    · rfl
    · exact traces_reportSent _ _ _
  · rfl

theorem traces_frameBegins (s : State) : s.frameBegins.traces = s.traces := by
  unfold State.frameBegins
  split <;> rfl

theorem traces_firstIdle (s : State) : s.firstIdle.traces = s.traces := by
  unfold State.firstIdle
  split <;> rfl

/-! ### Reception -/

theorem traces_receive_or_hand (s : State) (c : FrameClass) (f : RxFrame)
    (hand : FrameHead → List Byte → State → State) :
    (s.receive c f hand).traces = s.traces
      ∨ ∃ h body, (s.load f).qualify c = .passed h body
          ∧ s.receive c f hand = hand h body (s.load f).endFrame := by
  unfold State.receive
  split
  · exact .inl rfl
  · split
    · exact .inl (traces_firstIdle s)
    · split
      · exact .inl rfl
      · exact .inl rfl
      · exact .inl rfl
      · rename_i h body hq
        exact .inr ⟨h, body, hq, rfl⟩

theorem traces_receive {hand : FrameHead → List Byte → State → State}
    (hh : ∀ h body u, (hand h body u).traces = u.traces) (c : FrameClass) (f : RxFrame) (s : State) :
    (s.receive c f hand).traces = s.traces := by
  obtain h | ⟨h, body, -, e⟩ := traces_receive_or_hand s c f hand
  · exact h
  · rw [e, hh]
    rfl

/-! ### Frames from peers and stations -/

@[simp] theorem traces_hear (s : State) (sender : Nat) : (s.hear sender).traces = s.traces := by
  unfold State.hear
  split <;> rfl

@[simp] theorem traces_liveChanged (s : State) : s.liveChanged.traces = s.traces := by
  unfold State.liveChanged
  split
  · rfl
  · rw [traces_verdictDecision, traces_recomputeHorizon]

@[simp] theorem traces_testFace (s : State) (sender face : Nat) :
    (s.testFace sender face).traces = s.traces := by
  unfold State.testFace
  split <;> rfl

@[simp] theorem traces_handLeavingGap (s : State) (p : Peer) :
    (s.handLeavingGap p).traces = s.traces := by
  unfold State.handLeavingGap
  split
  · rfl
  · exact traces_handEntry _ _

@[simp] theorem traces_reportMissed (s : State) (missed sender : Nat) (a : Option Int) (b : Int) :
    (s.reportMissed missed sender a b).traces = s.traces := by
  unfold State.reportMissed
  split
  · rfl
  · exact traces_handEntry _ _

theorem traces_takeCutFrame (h : FrameHead) (body : List Byte) (s : State) :
    (State.takeCutFrame h body s).traces = s.traces := by
  unfold State.takeCutFrame
  split
  · rfl
  · split
    · unfold State.placeCut
      split <;> simp only [traces_count, traces_takeCut, traces_hear]
    · rfl

theorem traces_placeFinding (s : State) (p : Peer) (offset : Int) (f : Finding) :
    (s.placeFinding p offset f).traces = s.traces := by
  unfold State.placeFinding
  simp only [traces_handEntry, traces_reportMissed, traces_setPeer]
  split
  · exact traces_testFace _ _ _
  · rfl

theorem traces_takeFindingFrame (h : FrameHead) (body : List Byte) (s : State) :
    (State.takeFindingFrame h body s).traces = s.traces := by
  unfold State.takeFindingFrame State.takePeerFinding
  split
  · split
    · simp only [traces_count, traces_hear]
    · split <;> simp only [traces_count, traces_placeFinding, traces_hear]
  · rfl

@[simp] theorem traces_stepOffset (s : State) (v : Setup) (p : Peer) (offset : Int) :
    (s.stepOffset v p offset).traces = s.traces := by
  unfold State.stepOffset
  split <;> rfl

@[simp] theorem traces_stepNote (s : State) (sender : Nat) (offset : Int) (note : Option (Int × Int)) :
    (s.stepNote sender offset note).traces = s.traces := by
  unfold State.stepNote
  split
  · rfl
  · exact traces_handEntry _ _

@[simp] theorem traces_stepCovering (s : State) (p : Peer) (covering : Bool) (clearTo : Int) :
    (s.stepCovering p covering clearTo).traces = s.traces := by
  unfold State.stepCovering
  split
  · exact traces_handEntry _ _
  · exact traces_closeGap _ _ _ _ _
  · rfl

theorem traces_fiveSteps (s : State) (v : Setup) (p : Peer) (b : HorizonBody) :
    (s.fiveSteps v p b).traces = s.traces := by
  unfold State.fiveSteps
  dsimp only
  split <;> simp only [traces_verdictDecision, traces_recomputeHorizon, traces_setPeer,
    traces_stepCovering, traces_reportMissed, traces_stepNote, traces_stepOffset]

theorem traces_ensurePeer (s : State) (sender : Nat) : (s.ensurePeer sender).traces = s.traces := by
  unfold State.ensurePeer
  split
  · exact traces_hear s sender
  · split <;> rfl

theorem traces_takeHorizonFrame (h : FrameHead) (body : List Byte) (s : State) :
    (State.takeHorizonFrame h body s).traces = s.traces := by
  have he := traces_ensurePeer s h.sender
  unfold State.takeHorizonFrame
  split
  · rfl
  · dsimp only
    split
    · split
      · exact (traces_fiveSteps _ _ _ _).trans he
      · exact he
    · exact he

theorem traces_takeVerdictFrame (h : FrameHead) (body : List Byte) (s : State) :
    (State.takeVerdictFrame h body s).traces = s.traces := by
  unfold State.takeVerdictFrame
  split
  · rw [traces_hearVerdict, traces_hear]
  · rfl

theorem traces_takeAnnounce (s : State) (sender face : Nat) :
    (s.takeAnnounce sender face).traces = s.traces := by
  unfold State.takeAnnounce
  split
  · split <;> simp only [traces_setFlag, traces_addPeer, traces_testFace]
  · dsimp only
    split <;> simp only [traces_liveChanged, traces_setPeer, traces_handLeavingGap, traces_testFace]

theorem traces_takeAnnounceFrame (h : FrameHead) (body : List Byte) (s : State) :
    (State.takeAnnounceFrame h body s).traces = s.traces := by
  unfold State.takeAnnounceFrame
  split
  · rfl
  · split <;> simp only [traces_takeAnnounce, traces_hear]

theorem traces_takeStatusReqFrame (h : FrameHead) (body : List Byte) (s : State) :
    (State.takeStatusReqFrame h body s).traces = s.traces := by
  have hf := traces_handFrame s (s.statusFrame h.sender)
  unfold State.takeStatusReqFrame
  split
  · rfl
  · dsimp only
    split <;> exact hf

/-! ### Timers of the horizon unit and of the mode controller -/

theorem traces_takeSilence (s : State) (id : Nat) : (s.takeSilence id).traces = s.traces := by
  unfold State.takeSilence State.silence
  split
  · rfl
  · split
    · dsimp only
      split <;> simp only [traces_liveChanged, traces_setPeer, traces_handLeavingGap]
    · rfl

theorem traces_takeHorizonTimer (s : State) : s.takeHorizonTimer.traces = s.traces := by
  unfold State.takeHorizonTimer
  split
  · split
    · exact traces_handFrame _ _
    · rfl
  · rfl

theorem traces_takeAnnounceTimer (s : State) : s.takeAnnounceTimer.traces = s.traces := by
  unfold State.takeAnnounceTimer
  split
  · rfl
  · split
    · dsimp only
      split
      · rfl
      · exact traces_handFrame _ _
    · rfl

/-! ### The commands that leave setup, trace table and awaiting lines alone -/

/-- The eight commands that may change them. -/
def Instr.reachesTraces : Instr → Bool
  | .dropoutTimerExpiry _ => true
  | .lineArrival _ _ _ _ => true
  | .lineTimeout _ => true
  | .readoutTimeout _ => true
  | .probeArrival _ _ _ _ => true
  | .processedLine _ => true
  | .setupFrame _ _ => true
  | .resetEnd _ _ => true
  | _ => false

theorem traces_event {f : State → State} (hf : ∀ s, (f s).traces = s.traces) {dt : Nat}
    {s t : State} (h : event dt f s = .next t) : t.traces = s.traces := by
  obtain rfl | ⟨-, rfl⟩ := event_cases h
  · rfl
  · exact hf _

theorem traces_inputEvent {set : Pins → Pins} {f : State → State}
    (hf : ∀ s, (f s).traces = s.traces) {dt : Nat} {s t : State}
    (h : inputEvent dt set f s = .next t) : t.traces = s.traces := by
  obtain rfl | ⟨-, rfl⟩ := inputEvent_cases h
  · rfl
  · exact hf _

theorem exec_traces {c : Instr} (hc : Instr.reachesTraces c = false) {s t : State}
    (h : exec c s = .next t) : t.traces = s.traces := by
  have frame : ∀ {cl f hand dt}, (∀ h body u, (hand h body u).traces = u.traces) →
      event dt (State.receive cl f hand) s = .next t → t.traces = s.traces :=
    fun hh => traces_event (traces_receive hh _ _)
  cases c with
  | encoderTransition dt a b =>
    rw [exec_encoderTransition] at h
    exact traces_inputEvent (traces_takePair · a b) h
  | strandRise dt =>
    rw [exec_strandRise] at h
    refine traces_inputEvent (fun u => ?_) h
    split
    · rfl
    · exact traces_takeRise u
  | strandFall dt =>
    rw [exec_strandFall] at h
    refine traces_inputEvent (fun u => ?_) h
    split
    · exact traces_takeFall u
    · rfl
  | gateChange dt high =>
    rw [exec_gateChange] at h
    exact traces_inputEvent (traces_takeGate · high) h
  | cutInputEdge dt high =>
    rw [exec_cutInputEdge] at h
    exact traces_inputEvent (traces_takeCutLevel · high) h
  | referenceReadout dt tag raw => exact traces_event (traces_takeReadoutTag · tag raw) h
  | probeTimerExpiry dt => exact traces_event traces_takeProbeTimer h
  | probeTimeout dt => exact traces_event traces_takeProbeTimeout h
  | tick dt => exact traces_event traces_takeTick h
  | transmitTry dt => exact traces_event traces_tryToSend h
  | arbitrationLost dt => exact traces_event traces_loseArbitration h
  | collision dt => exact traces_event traces_collide h
  | frameSentWhole dt => exact traces_event traces_sentWhole h
  | cutFrame dt f => exact frame traces_takeCutFrame h
  | findingFrame dt f => exact frame traces_takeFindingFrame h
  | horizonFrame dt f => exact frame traces_takeHorizonFrame h
  | verdictFrame dt f => exact frame traces_takeVerdictFrame h
  | announceFrame dt f => exact frame traces_takeAnnounceFrame h
  | statusFrame dt f => exact frame (hand := State.discardFrame) (fun _ _ _ => rfl) h
  | buildFrame dt f => exact frame (hand := State.takeBuildFrame) (fun _ _ _ => rfl) h
  | statusReqFrame dt f => exact frame traces_takeStatusReqFrame h
  | silenceTimerExpiry dt p => exact traces_event (traces_takeSilence · p) h
  | horizonTimerExpiry dt => exact traces_event traces_takeHorizonTimer h
  | announceTimerExpiry dt => exact traces_event traces_takeAnnounceTimer h
  | powerOnReset dt =>
    injection h with h
    rw [← h]; rfl
  | pinReset dt =>
    injection h with h
    rw [← h]; rfl
  | newFrameBegins dt => exact traces_event traces_frameBegins h
  | idleGapAfterReset dt => exact traces_event traces_firstIdle h
  | frameOfUndefinedClass dt f => exact frame (hand := State.discardFrame) (fun _ _ _ => rfl) h
  | _ => exact nomatch hc

end Sys2Proof.Machine
end

section
/-! SUPPORT. The trace table over one step (O59): spans stay stretches of columns through matching, opening and
aging, and what is kept after closing and splitting obeys the limits of idle and lines. -/

namespace Sys2Proof.Machine

/-! ### Stretches of columns -/

/-- A stretch of the columns of a line. -/
def InLine (lo hi : Nat) : Prop := lo ≤ hi ∧ hi < 2048

/-- A run that is a stretch of the columns of a line (R47). -/
def Run.InLine (r : Run) : Prop := Machine.InLine r.lo r.hi

/-- Every last span is a stretch of the columns of a line. -/
def SpansInLine (slots : List (Option Trace)) : Prop :=
  ∀ slot ∈ slots, ∀ t ∈ slot, InLine t.spanLo t.spanHi

/-- What the law of the trace table says of an open trace (R70, R71). -/
def Trace.Lawful (v : Setup) (t : Trace) : Prop :=
  t.idle ≤ v.gapLines ∧ t.lines ≤ 4095 ∧ InLine t.spanLo t.spanHi

theorem traceInv_none {s : State} (hv : s.ctl.setup = none) :
    TraceInv s ↔ (∀ line ∈ s.tracer.awaiting, ∀ r ∈ line.runs, r.InLine)
      ∧ ∀ slot ∈ s.tracer.slots, slot = none := by
  unfold TraceInv
  rw [hv]
  rfl

theorem traceInv_some {s : State} {v : Setup} (hv : s.ctl.setup = some v) :
    TraceInv s ↔ (∀ line ∈ s.tracer.awaiting, ∀ r ∈ line.runs, r.InLine)
      ∧ ∀ slot ∈ s.tracer.slots, ∀ t ∈ slot, t.Lawful v := by
  unfold TraceInv
  rw [hv]
  rfl

theorem TraceInv.awaiting {s : State} (h : TraceInv s) :
    ∀ line ∈ s.tracer.awaiting, ∀ r ∈ line.runs, r.InLine := h.1

/-- An empty table is lawful under any setup. -/
theorem traceInv_of_empty {s : State} (ha : ∀ line ∈ s.tracer.awaiting, ∀ r ∈ line.runs, r.InLine)
    (hs : ∀ slot ∈ s.tracer.slots, slot = none) : TraceInv s := by
  cases hv : s.ctl.setup with
  | none => exact (traceInv_none hv).mpr ⟨ha, hs⟩
  | some v => exact (traceInv_some hv).mpr ⟨ha, fun slot hslot t ht => by
      rw [hs slot hslot] at ht
      exact nomatch ht⟩

theorem SpansInLine.set {slots : List (Option Trace)} (h : SpansInLine slots) (i : Nat)
    {slot : Option Trace} (hslot : ∀ t ∈ slot, InLine t.spanLo t.spanHi) :
    SpansInLine (slots.set i slot) := fun x hx => by
  obtain hx | rfl := List.mem_or_eq_of_mem_set hx
  · exact h x hx
  · exact hslot

/-! ### Groups (R62) -/

theorem linkRun_runs {r u : Run} {slots : List Nat} {groups : List TraceGroup} {g : TraceGroup}
    (hg : g ∈ linkRun r slots groups) (hu : u ∈ g.runs) : u = r ∨ ∃ k ∈ groups, u ∈ k.runs := by
  unfold linkRun at hg
  split at hg
  · exact .inr ⟨g, hg, hu⟩
  · obtain hg | hg := List.mem_append.mp hg
    · exact .inr ⟨g, List.mem_of_mem_filter hg, hu⟩
    · obtain rfl := List.mem_singleton.mp hg
      obtain hu | hu := List.mem_append.mp hu
      · obtain ⟨runs, hruns, hu⟩ := List.mem_flatten.mp hu
        obtain ⟨k, hk, rfl⟩ := List.mem_map.mp hruns
        exact .inr ⟨k, List.mem_of_mem_filter hk, hu⟩
      · exact .inl (List.mem_singleton.mp hu)

/-- A group holds runs of the line alone. -/
theorem groupsOf_runs (slots : List (Option Trace)) (tolerance : Nat) {runs : List Run} {g : TraceGroup}
    (hg : g ∈ groupsOf slots tolerance runs) {u : Run} (hu : u ∈ g.runs) : u ∈ runs := by
  have hfold : ∀ (rest : List Run) (groups : List TraceGroup),
      (∀ k ∈ groups, ∀ u ∈ k.runs, u ∈ runs) → (∀ r ∈ rest, r ∈ runs) →
      ∀ k ∈ rest.foldl (fun groups r => linkRun r (matchedSlots slots tolerance r) groups) groups,
        ∀ u ∈ k.runs, u ∈ runs := by
    intro rest
    induction rest with
    | nil => exact fun groups hgroups _ => hgroups
    | cons r rest ih =>
      intro groups hgroups hrest
      refine ih _ (fun k hk u hu => ?_) fun q hq => hrest q (List.mem_cons_of_mem r hq)
      obtain rfl | ⟨k', hk', hu'⟩ := linkRun_runs hk hu
      · exact hrest u List.mem_cons_self
      · exact hgroups k' hk' u hu'
  exact hfold runs [] nofun (fun _ => id) g hg u hu

/-! ### Joining and extension (R62 to R65) -/

theorem oldestSlot_mem {slots : List (Option Trace)} {is : List Nat} {i : Nat} {t : Trace}
    (h : oldestSlot slots is = some (i, t)) : some t ∈ slots := by
  have hget : ∀ {j : Nat} {u : Trace}, slots.getD j none = some u → some u ∈ slots := by
    intro j u hu
    by_cases hj : j < slots.length
    · rw [List.getD_eq_getElem _ _ hj] at hu
      exact hu ▸ List.getElem_mem hj
    · rw [List.getD_eq_default _ _ (not_lt.mp hj)] at hu
      exact nomatch hu
  induction is generalizing i t with
  | nil => exact nomatch h
  | cons j rest ih =>
    unfold oldestSlot at h
    split at h
    · exact ih h
    · rename_i u hu _
      cases h
      exact hget hu
    · rename_i u k w hu hrest
      split at h
      · cases h
        exact hget hu
      · cases h
        exact ih hrest

/-- A survivor keeps its own last span. -/
theorem foldl_absorb_span (others : List Trace) (t : Trace) :
    (others.foldl Trace.absorb t).spanLo = t.spanLo
      ∧ (others.foldl Trace.absorb t).spanHi = t.spanHi := by
  induction others generalizing t with
  | nil => exact ⟨rfl, rfl⟩
  | cons u rest ih => exact ih (t.absorb u)

/-- The range that covers two stretches is one. -/
theorem coverExtent_inLine {a b : Option (Nat × Nat)} (ha : ∀ e ∈ a, InLine e.1 e.2)
    (hb : ∀ e ∈ b, InLine e.1 e.2) : ∀ e ∈ coverExtent a b, InLine e.1 e.2 := by
  match a, b with
  | none, _ => exact hb
  | some _, none => exact ha
  | some (a, b), some (c, d) =>
    intro e he
    cases he
    obtain ⟨hab, hbl⟩ := ha (a, b) rfl
    obtain ⟨hcd, hdl⟩ := hb (c, d) rfl
    exact ⟨by omega, by omega⟩

theorem runsExtent_inLine {runs : List Run} (h : ∀ r ∈ runs, r.InLine) :
    ∀ e ∈ runsExtent runs, InLine e.1 e.2 := by
  have hfold : ∀ (rest : List Run) (acc : Option (Nat × Nat)), (∀ r ∈ rest, r.InLine) →
      (∀ e ∈ acc, InLine e.1 e.2) →
      ∀ e ∈ rest.foldl (fun e r => coverExtent e (some (r.lo, r.hi))) acc, InLine e.1 e.2 := by
    intro rest
    induction rest with
    | nil => exact fun acc _ hacc => hacc
    | cons r rest ih =>
      intro acc hrest hacc
      obtain ⟨hr, hrest⟩ := List.forall_mem_cons.mp hrest
      exact ih _ hrest (coverExtent_inLine hacc fun e he => by cases he; exact hr)
  exact hfold runs none h nofun

/-- An extended trace has the runs' stretch as its last span, or its own where it took none. -/
theorem extend_inLine {t : Trace} (ht : InLine t.spanLo t.spanHi) (line : ProcessedLine)
    {runs : List Run} (h : ∀ r ∈ runs, r.InLine) :
    InLine (t.extend line runs).spanLo (t.extend line runs).spanHi := by
  have hspan := runsExtent_inLine h
  unfold Trace.extend
  cases he : runsExtent runs with
  | none => exact ht
  | some e => exact hspan e he

theorem applyGroup_spans (line : ProcessedLine) {slots : List (Option Trace)} (h : SpansInLine slots)
    {g : TraceGroup} (hg : ∀ r ∈ g.runs, r.InLine) : SpansInLine (applyGroup line slots g) := by
  have hclear : ∀ (is : List Nat) (slots : List (Option Trace)), SpansInLine slots →
      SpansInLine (is.foldl (fun acc j => acc.set j none) slots) := by
    intro is
    induction is with
    | nil => exact fun _ => id
    | cons i rest ih => exact fun slots h => ih _ (h.set i nofun)
  unfold applyGroup
  split
  · exact h
  · rename_i i t hold
    dsimp only
    refine (hclear _ _ h).set i fun u hu => ?_
    cases hu
    refine extend_inLine ?_ line hg
    obtain ⟨hlo, hhi⟩ := foldl_absorb_span
      ((g.slots.filter (· != i)).filterMap fun j => slots.getD j none) t
    dsimp only
    rw [hlo, hhi]
    exact h _ (oldestSlot_mem hold) t rfl

theorem applyGroups_spans (line : ProcessedLine) {groups : List TraceGroup}
    (hg : ∀ g ∈ groups, ∀ r ∈ g.runs, r.InLine) {slots : List (Option Trace)} (h : SpansInLine slots) :
    SpansInLine (groups.foldl (applyGroup line) slots) := by
  induction groups generalizing slots with
  | nil => exact h
  | cons g rest ih =>
    obtain ⟨hfirst, hrest⟩ := List.forall_mem_cons.mp hg
    exact ih hrest (applyGroup_spans line h hfirst)

/-! ### Opening and aging (R65 to R69) -/

theorem openSlot_mem {t : Trace} {slots next : List (Option Trace)} (h : openSlot t slots = some next)
    {slot : Option Trace} (hslot : slot ∈ next) : slot = some t ∨ slot ∈ slots := by
  induction slots generalizing next with
  | nil => exact nomatch h
  | cons first rest ih =>
    cases first with
    | none =>
      cases h
      obtain rfl | hslot := List.mem_cons.mp hslot
      · exact .inl rfl
      · exact .inr (List.mem_cons_of_mem none hslot)
    | some u =>
      obtain ⟨r, hr, rfl⟩ := Option.map_eq_some_iff.mp h
      obtain rfl | hslot := List.mem_cons.mp hslot
      · exact .inr List.mem_cons_self
      · exact (ih hr hslot).imp_right (List.mem_cons_of_mem _)

theorem openRuns_spans (line : ProcessedLine) {runs : List Run} (hr : ∀ r ∈ runs, r.InLine)
    {slots : List (Option Trace)} (h : SpansInLine slots) :
    SpansInLine (openRuns line runs slots).1 := by
  induction runs generalizing slots with
  | nil => exact h
  | cons r rest ih =>
    obtain ⟨hfirst, hrest⟩ := List.forall_mem_cons.mp hr
    unfold openRuns
    split
    · rename_i next hnext
      refine ih hrest fun slot hslot => ?_
      obtain rfl | hslot := openSlot_mem hnext hslot
      · exact fun t ht => by cases ht; exact hfirst
      · exact h slot hslot
    · exact ih hrest h

theorem age_span (t : Trace) (blind : SegMask) :
    (t.age blind).spanLo = t.spanLo ∧ (t.age blind).spanHi = t.spanHi := by
  unfold Trace.age
  split <;> exact ⟨rfl, rfl⟩

theorem ageSlots_spans (blind : SegMask) (extended : List Nat) (before : List (Option Trace))
    {slots : List (Option Trace)} (h : SpansInLine slots) :
    SpansInLine (ageSlots blind extended before slots) := by
  intro slot hslot t ht
  obtain ⟨i, hi, rfl⟩ := List.mem_mapIdx.mp hslot
  have hmem := h _ (List.getElem_mem hi)
  split at ht
  · obtain ⟨u, hu, rfl⟩ := Option.map_eq_some_iff.mp ht
    obtain ⟨hlo, hhi⟩ := age_span u blind
    rw [hlo, hhi]
    exact hmem u hu
  · exact hmem t ht

/-! ### Closing and splitting (R70, R71) -/

/-- What is kept in a slot has not outlived the gap lines nor reached the lines at which a trace splits. -/
theorem keptIn_lawful {line : ProcessedLine} {v : Setup} {slot : Option Trace}
    (hs : ∀ t ∈ slot, InLine t.spanLo t.spanHi) :
    ∀ t ∈ keptIn line v.linePitch v.gapLines slot, t.Lawful v := by
  intro t ht
  unfold keptIn at ht
  split at ht
  · exact nomatch ht
  · rename_i u
    obtain ⟨hlo, hhi⟩ := hs u rfl
    split at ht
    · exact nomatch ht
    · rename_i hidle
      split at ht
      · cases ht
        exact ⟨Nat.zero_le _, Nat.zero_le _, hlo, hhi⟩
      · rename_i hlines
        cases ht
        exact ⟨not_lt.mp hidle, Nat.le_of_lt_succ (not_le.mp hlines), hlo, hhi⟩

/-! ### One processed line (R60) -/

theorem traces_takeAllClosed (s : State) (v : Setup) (closed : List Trace) :
    (s.takeAllClosed v closed).traces = s.traces := by
  obtain ⟨i, n, r, b, m, x, d, h⟩ := s.takeAllClosed_footprint v closed
  rw [h]; rfl

/-- The trace table after the runs of a line have been matched, and the traces they missed have aged (R61 to
R69). -/
def agedTable (v : Setup) (line : ProcessedLine) (slots : List (Option Trace)) : List (Option Trace) :=
  let groups := groupsOf slots v.columnTolerance line.runs
  let free := line.runs.filter fun r => (matchedSlots slots v.columnTolerance r).isEmpty
  ageSlots line.blind (groups.map TraceGroup.slots).flatten slots
    (openRuns line free (groups.foldl (applyGroup line) slots)).1

theorem agedTable_spans {slots : List (Option Trace)} (h : SpansInLine slots) (v : Setup)
    {line : ProcessedLine} (hr : ∀ r ∈ line.runs, r.InLine) : SpansInLine (agedTable v line slots) := by
  have hgroups : ∀ g ∈ groupsOf slots v.columnTolerance line.runs, ∀ r ∈ g.runs, r.InLine :=
    fun g hg r hrg => hr r (groupsOf_runs _ _ hg hrg)
  exact ageSlots_spans _ _ _ (openRuns_spans line (fun r hfree => hr r (List.mem_of_mem_filter hfree))
    (applyGroups_spans line hgroups h))

/-- A processed line leaves in each slot what is kept of the aged table. -/
theorem traceLine_traces (s : State) (v : Setup) (line : ProcessedLine) :
    (s.traceLine v line).traces = (s.ctl.setup,
      (agedTable v line s.tracer.slots).map (keptIn line v.linePitch v.gapLines),
      s.tracer.awaiting) := by
  unfold State.traceLine
  dsimp only
  rw [traces_takeAllClosed]
  obtain ⟨k, d, h⟩ := s.dropRuns_footprint v line (openRuns line
    (line.runs.filter fun r => (matchedSlots s.tracer.slots v.columnTolerance r).isEmpty)
    ((groupsOf s.tracer.slots v.columnTolerance line.runs).foldl (applyGroup line) s.tracer.slots)).2
  rw [h]
  rfl

theorem traceLine_traceInv {s : State} (hs : TraceInv s) {v : Setup} (hv : s.ctl.setup = some v)
    {line : ProcessedLine} (hr : ∀ r ∈ line.runs, r.InLine) : TraceInv (s.traceLine v line) := by
  obtain ⟨ha, hslots⟩ := (traceInv_some hv).mp hs
  have hspans : SpansInLine s.tracer.slots := fun slot hslot t ht => by
    obtain ⟨-, -, hspan⟩ := hslots slot hslot t ht
    exact hspan
  have e := traceLine_traces s v line
  simp only [State.traces, Prod.mk.injEq] at e
  obtain ⟨ev, es, ea⟩ := e
  refine (traceInv_some (ev.trans hv)).mpr ⟨ea ▸ ha, ?_⟩
  rw [es]
  intro slot hslot
  obtain ⟨old, hold, rfl⟩ := List.mem_map.mp hslot
  exact keptIn_lawful (agedTable_spans hspans v hr old hold)

theorem takeProcessed_traceInv {s : State} (hs : TraceInv s) : TraceInv s.takeProcessed := by
  unfold State.takeProcessed
  split
  · rename_i line rest v hq hv
    obtain ⟨ha, hslots⟩ := (traceInv_some hv).mp hs
    rw [hq] at ha
    obtain ⟨hline, hrest⟩ := List.forall_mem_cons.mp ha
    have htaken : TraceInv { s with tracer := { s.tracer with awaiting := rest } } :=
      (traceInv_some (s := { s with tracer := { s.tracer with awaiting := rest } }) hv).mpr
        ⟨hrest, hslots⟩
    dsimp only
    split
    · exact htaken.of_traces (by rw [traces_recompute, traces_discardLine])
    · exact (traceLine_traceInv htaken hv hline).of_traces
        (by rw [traces_lineBoundary, traces_recompute])
  · exact hs

/-! ### Lines handed on (R47, R50) -/

theorem traces_crowd (s : State) (v : Setup) (p : Int) (crowded : Bool) :
    (s.crowd v p crowded).traces = s.traces := by
  unfold State.crowd
  split <;> rfl

theorem traces_lineHandedOn (s : State) (v : Setup) (l : LineInFlight) (blind : SegMask)
    (runs : List Run) (k : Corrector) :
    ∃ handed : ProcessedLine, handed.runs = runs.take 16
      ∧ (s.lineHandedOn v l blind runs k).traces
        = (s.ctl.setup, s.tracer.slots, s.tracer.awaiting ++ [handed]) := by
  refine ⟨{
    position := l.position, runs := runs.take 16, blind := blind, stale := s.staleSet
    crowded := decide (16 < runs.length), synthetic := v.synthetic }, rfl, ?_⟩
  have hsetup : (s.crowd v l.position (decide (16 < runs.length))).ctl.setup = s.ctl.setup :=
    congrArg Prod.fst (traces_crowd s v l.position _)
  unfold State.traces State.lineHandedOn
  dsimp only
  rw [hsetup]

/-- More lines may await the tracer, if their runs are stretches of columns. -/
theorem TraceInv.hand {s t : State} (hs : TraceInv s) {line : ProcessedLine}
    (hr : ∀ r ∈ line.runs, r.InLine)
    (e : t.traces = (s.ctl.setup, s.tracer.slots, s.tracer.awaiting ++ [line])) : TraceInv t := by
  have hmore : TraceInv { s with tracer := { s.tracer with
      awaiting := s.tracer.awaiting ++ [line] } } := by
    refine ⟨fun l hl => ?_, hs.2⟩
    obtain hl | hl := List.mem_append.mp hl
    · exact hs.awaiting l hl
    · exact List.mem_singleton.mp hl ▸ hr
  exact hmore.of_traces e

/-- The corrector hands on at most 16 of the line's runs (R48, R50). -/
theorem correctLine_traceInv {s : State} (hs : TraceInv s) (v : Setup) (line : LineInFlight)
    (raw : List (BitVec 12)) (withheld : SegMask) :
    TraceInv (s.correctLine v line raw withheld) := by
  have e := correctLine_eq (s := s) (v := v) (l := line) (raw := raw) (withheld := withheld) rfl rfl
  set runs := lineRuns v (lineContrasts v (line.blind ||| withheld) line.position
    (rawValues 2048 raw) s.corr.dark s.corr.gain) with hruns
  obtain ⟨handed, htake, hon⟩ := traces_lineHandedOn s v line (line.blind ||| withheld) runs
    (if s.corr.build = .busy ∧ runs = [] then
      s.corr.accumulate (line.blind ||| withheld) (rawValues 2048 raw) else s.corr)
  refine hs.hand (line := handed) (fun r hr => ?_) (by rw [e, traces_completeBuild, hon])
  rw [htake] at hr
  obtain ⟨hle, hlt⟩ := lineRuns_within v _ (hruns ▸ List.mem_of_mem_take hr)
  exact ⟨hle, hlt.trans_le (length_lineContrasts_le v _ _ (length_rawValues _ _) _ _)⟩

theorem takeArrival_traceInv {s : State} (hs : TraceInv s) (tag : BitVec 8) (raw : List (BitVec 12))
    (withheld : SegMask) : TraceInv (s.takeArrival tag raw withheld) := by
  have hdrop : TraceInv s.dropLine.clearTimeouts := hs.of_traces rfl
  unfold State.takeArrival
  split
  · unfold State.takeLine
    dsimp only
    split
    · exact hdrop
    · split
      · exact (correctLine_traceInv hdrop _ _ raw withheld).of_traces (traces_recompute _)
      · exact hdrop.of_traces (traces_recompute _)
  · split
    · exact hs.of_traces (traces_recover s)
    · exact hs.of_traces (traces_takeStale s)

/-! ### Forced closes (R73, R74) -/

/-- A forced close leaves an empty table. -/
theorem closeAll_traceInv {s : State} (hs : TraceInv s) (v : Setup) (kind : CloseKind) :
    TraceInv (s.closeAll v kind) := by
  obtain ⟨i, n, r, b, m, x, d, h⟩ := s.closeAll_footprint v kind
  rw [h]
  exact traceInv_of_empty hs.awaiting fun slot hslot => List.eq_of_mem_replicate hslot

theorem takeDropout_traceInv {s : State} (hs : TraceInv s) : TraceInv s.takeDropout := by
  have hend : ∀ {u : State} (v : Setup), TraceInv u → TraceInv (u.strandEnd v) := by
    intro u v hu
    have hclose : TraceInv ((u.setMode .referencing).dropLine.closeAll v .strandEnd) :=
      closeAll_traceInv (s := (u.setMode .referencing).dropLine) (hu.of_traces rfl) v _
    exact hclose.of_traces (by
      unfold State.strandEnd
      rw [traces_recompute, traces_coveringTest, traces_startAll, traces_abortBuild])
  unfold State.takeDropout
  split
  · have hclear : TraceInv { s with travel := { s.travel with strand := .clear, dropout := none } } :=
      hs.of_traces rfl
    dsimp only
    split
    · exact hclear
    · split
      · exact hend _ hclear
      · exact hclear
  · exact hs

theorem enterHeadFault_traceInv {s : State} (hs : TraceInv s) (v : Setup) :
    TraceInv (s.enterHeadFault v) := by
  have hcut : (((s.setFlag .headFault).setMode .headFault).abandonNoted v).truncateByFault.traces
      = s.traces := by
    rw [traces_truncateByFault, traces_abandonNoted]
    rfl
  unfold State.enterHeadFault
  extract_lets t port u
  have hu : TraceInv u := hs.of_traces hcut
  exact (closeAll_traceInv hu v .headFault).of_traces (by rw [traces_coveringTest, traces_abortBuild])

theorem countTimeout_traceInv {s : State} (hs : TraceInv s) (v : Setup) :
    TraceInv (s.countTimeout v) := by
  unfold State.countTimeout
  extract_lets port t
  have ht : TraceInv t := hs.of_traces rfl
  split
  · exact enterHeadFault_traceInv ht v
  · exact ht

theorem takeLineTimeout_traceInv {s : State} (hs : TraceInv s) : TraceInv s.takeLineTimeout := by
  unfold State.takeLineTimeout
  split
  · rename_i l v _ _
    split
    · have hnoted : TraceInv ((s.dropLine.count .lineTimeout).noteLine v l.position) := hs.of_traces rfl
      exact (countTimeout_traceInv hnoted v).of_traces (traces_recompute _)
    · exact hs
  · exact hs

theorem takeReadoutTimeout_traceInv {s : State} (hs : TraceInv s) :
    TraceInv s.takeReadoutTimeout := by
  have hcount : ∀ {u : State} (v : Setup), u.traces = s.traces → TraceInv (u.countTimeout v) :=
    fun v e => countTimeout_traceInv (hs.of_traces e) v
  unfold State.takeReadoutTimeout
  split
  · split
    · unfold State.timeOutReadout
      dsimp only
      split
      · have hcycle := fun i n v => hcount v (traces_truncateCycle (s.count .lineTimeout) i n)
        split
        · exact (hcycle _ _ _).of_traces (traces_recompute _)
        · exact (hcycle _ _ _).of_traces (traces_dueTest _)
      · have hall := fun n v => hcount v (traces_renewRequest (s.count .lineTimeout) n)
        split
        · exact (hall _ _).of_traces (traces_recompute _)
        · exact hall _ _
    · exact hs
  · exact hs

/-! ### SETUP and the end of a reset (R191, R199) -/

theorem traces_acceptSetup (s : State) (v : Setup) :
    (s.acceptSetup v).traces = (some v, s.tracer.slots, s.tracer.awaiting) := by
  unfold State.acceptSetup State.setupHorizon
  simp only [traces_startAll, traces_handFrame, traces_openOwnGap]
  exact (traces_recomputeHorizon _ v).trans rfl

/-- A SETUP that passes the checks finds an empty table. -/
theorem receiveSetup_traceInv {s : State} (hm : CoveringInv s) (hs : TraceInv s) (f : RxFrame) :
    TraceInv (s.receive .setup f State.takeSetupFrame) := by
  obtain e | ⟨h, body, hq, e⟩ := traces_receive_or_hand s .setup f State.takeSetupFrame
  · exact hs.of_traces e
  · obtain ⟨hn, -⟩ := setup_passed (s := s.load f) hm hq
    obtain ⟨ha, hempty⟩ := (traceInv_none hn).mp hs
    have ht := traces_acceptSetup (s.load f).endFrame (parseSetup body)
    simp only [State.traces, Prod.mk.injEq] at ht
    obtain ⟨-, hslots, hawait⟩ := ht
    rw [e]
    refine traceInv_of_empty ?_ ?_
    · exact fun l hl => ha l (hawait ▸ hl)
    · exact fun slot hslot => hempty slot (hslots ▸ hslot)

theorem endReset_traceInv (s : State) (p : Straps) (cause : ResetCause) :
    TraceInv (s.endReset p cause) := by
  have hblocks : TraceInv (s.resetBlocks p cause) :=
    traceInv_of_empty nofun fun slot hslot => List.eq_of_mem_replicate hslot
  unfold State.endReset
  dsimp only
  split
  · exact hblocks
  · exact hblocks.of_traces (traces_handFrame _ _)

/-! ### One command, one step -/

theorem event_traceInv {f : State → State} {dt : Nat} {s t : State}
    (hf : TraceInv (s.begin dt) → TraceInv (f (s.begin dt))) (hs : TraceInv s)
    (h : event dt f s = .next t) : TraceInv t := by
  have hbegin : TraceInv (s.begin dt) := hs.of_traces rfl
  obtain rfl | ⟨-, rfl⟩ := event_cases h
  · exact hbegin
  · exact hf hbegin

theorem exec_traceInv {c : Instr} {s t : State} (hm : CoveringInv s) (hs : TraceInv s)
    (h : exec c s = .next t) : TraceInv t := by
  cases hc : Instr.reachesTraces c with
  | false => exact hs.of_traces (exec_traces hc h)
  | true =>
    cases c with
    | dropoutTimerExpiry dt => exact event_traceInv takeDropout_traceInv hs h
    | lineArrival dt tag raw w =>
      exact event_traceInv (f := (State.takeArrival · tag raw w))
        (takeArrival_traceInv · tag raw w) hs h
    | probeArrival dt tag raw w =>
      exact event_traceInv (f := (State.takeArrival · tag raw w))
        (takeArrival_traceInv · tag raw w) hs h
    | lineTimeout dt => exact event_traceInv takeLineTimeout_traceInv hs h
    | readoutTimeout dt => exact event_traceInv takeReadoutTimeout_traceInv hs h
    | processedLine dt => exact event_traceInv takeProcessed_traceInv hs h
    | setupFrame dt f =>
      exact event_traceInv (fun hb => receiveSetup_traceInv (s := s.begin dt) hm hb f) hs h
    | resetEnd dt p =>
      obtain ⟨-, rfl⟩ | ⟨cause, -, rfl⟩ := resetEnd_cases h
      · exact hs.of_traces rfl
      · exact endReset_traceInv s p cause
    | _ => exact nomatch hc

/-- Settles O59: an empty queue idles, and every command keeps the law of the trace table, SETUP because the
modes agree. -/
theorem theTraceTableIsKept : Obligations.TheTraceTableIsKept := by
  intro s t hm hs h
  obtain ⟨hcov, -, -⟩ := hm
  unfold step at h
  split at h
  · injection h with h
    exact h ▸ hs
  · rename_i c rest _
    exact exec_traceInv (s := { s with pending := rest }) hcov (hs.of_traces rfl) h

end Sys2Proof.Machine
end

section
/-! SUPPORT. The ledger: own clear-to, strand horizon and record unit. Few operations reach it: a rise of the
own clear-to, a recomputation of the strand horizon, an entry or a close handed to the record unit, and a cut
with its eviction. A relation between states that holds over each of these and over every change elsewhere
holds over every command but the end of a reset. -/

namespace Sys2Proof.Machine

/-- A preorder of states that every operation on the ledger, and every change elsewhere, goes along. -/
structure LedgerRelation (P : State → State → Prop) : Prop where
  refl : ∀ s, P s s
  after : ∀ {s t u}, P t u → P s t → P s u
  elsewhere : ∀ {s t : State}, t.hz.ownClearTo = s.hz.ownClearTo → t.hz.horizon = s.hz.horizon →
    t.record = s.record → P s t
  clearToRises : ∀ (s : State) (a : Int), s.hz.ownClearTo ≤ a →
    P s { s with hz := { s.hz with ownClearTo := a } }
  recomputeHorizon : ∀ (s : State) (v : Setup), P s (s.recomputeHorizon v)
  handEntry : ∀ (s : State) (e : Entry), P s (s.handEntry e)
  closeGap : ∀ (s : State) (face subject : Nat) (start stop : Int),
    P s (s.closeGap face subject start stop)
  takeCut : ∀ (s : State) (v : Setup) (received : Bool) (number : Nat) (position : Int),
    P s (s.takeCut v received number position)

set_option Elab.async false

namespace LedgerRelation

variable {P : State → State → Prop} (hP : LedgerRelation P)
include hP

/-! ### Shared operations -/

/-- A change that computes to the same ledger. -/
theorem still {s t : State} (hc : t.hz.ownClearTo = s.hz.ownClearTo := by rfl)
    (hh : t.hz.horizon = s.hz.horizon := by rfl) (hr : t.record = s.record := by rfl) : P s t :=
  hP.elsewhere hc hh hr

theorem handFrame (s : State) (f : TxFrame) : P s (s.handFrame f) := by
  obtain ⟨x, d, e⟩ := s.handFrame_footprint f
  rw [e]
  exact hP.still

theorem markMove (s : State) (dir : Direction) (before : Int) : P s (s.markMove dir before) := by
  obtain ⟨m, d, e⟩ := s.markMove_footprint dir before
  rw [e]
  exact hP.still

theorem verdictDecision (s : State) (v : Setup) : P s (s.verdictDecision v) := by
  obtain ⟨b, x, d, e⟩ := s.verdictDecision_footprint v
  rw [e]
  exact hP.still

theorem hearVerdict (s : State) (heard : Verdict) : P s (s.hearVerdict heard) := by
  obtain ⟨b, d, e⟩ := s.hearVerdict_footprint heard
  rw [e]
  exact hP.still

theorem newClearTo (s : State) (v : Setup) :
    P s { s with hz := { s.hz with ownClearTo := s.newClearTo v } } :=
  hP.clearToRises s _ (le_max_left _ _)

theorem horizonStep (s : State) (v : Setup) : P s (s.horizonStep v) := by
  obtain ⟨x, d, e⟩ := s.horizonStep_footprint v
  rw [e]
  exact hP.still

theorem recompute (s : State) : P s s.recompute := by
  unfold State.recompute
  split
  · exact hP.refl s
  · rename_i v _
    have hstep : P s ({ s with hz := { s.hz with ownClearTo := s.newClearTo v } }.horizonStep v) :=
      hP.after (hP.horizonStep _ v) (hP.newClearTo s v)
    dsimp only
    split
    · exact hstep
    · exact hP.after (hP.recomputeHorizon _ v) hstep

theorem recomputeIfMoved (s old : State) : P s (s.recomputeIfMoved old) := by
  unfold State.recomputeIfMoved
  split
  · exact hP.refl s
  · exact hP.recompute s

theorem openOwnGap (s : State) (v : Setup) : P s (s.openOwnGap v) :=
  hP.after (hP.handEntry _ _) hP.still

theorem coveringTest (s : State) (v : Setup) : P s (s.coveringTest v) := by
  unfold State.coveringTest State.closeOwnGap
  split
  · exact hP.refl s
  · dsimp only
    split
    · split
      · exact hP.still
      · exact hP.after (hP.closeGap _ _ _ _ _) hP.still
    · exact hP.after (hP.openOwnGap _ v) hP.still

/-! ### Reference scheduler -/

theorem dueTest (s : State) : P s s.dueTest := by
  obtain ⟨h, c, e⟩ := s.dueTest_footprint
  rw [e]
  exact hP.still

theorem lineBoundary (s : State) (v : Setup) : P s (s.lineBoundary v) := by
  obtain ⟨h, c, e⟩ := s.lineBoundary_footprint v
  rw [e]
  exact hP.still

theorem startAll (s : State) : P s s.startAll := by
  obtain ⟨h, c, k, e⟩ := s.startAll_footprint
  rw [e]
  exact hP.still

theorem truncateByFault (s : State) : P s s.truncateByFault := by
  obtain ⟨h, c, k, e⟩ := s.truncateByFault_footprint
  rw [e]
  exact hP.still

theorem truncateCycle (s : State) (i : Fin 8) (n : Nat) : P s (s.truncateCycle i n) := by
  obtain ⟨h, e⟩ := s.stopReference_footprint
  unfold State.truncateCycle
  rw [e]
  dsimp only
  split <;> exact hP.still

/-! ### Tracer and corrector -/

theorem handFinding (s : State) (f : Finding) : P s (s.handFinding f) :=
  hP.after (hP.handFrame _ _) (hP.after (hP.handEntry _ _) hP.still)

theorem takeClosed (v : Setup) (s : State) (x : Trace) : P s (State.takeClosed v s x) := by
  unfold State.takeClosed
  split
  · exact hP.refl s
  · dsimp only
    split
    · exact hP.still
    · exact hP.handFinding s _

theorem takeAllClosed (s : State) (v : Setup) (closed : List Trace) :
    P s (s.takeAllClosed v closed) := by
  unfold State.takeAllClosed
  generalize closedOrder closed = xs
  induction xs generalizing s with
  | nil => exact hP.refl s
  | cons x rest ih => exact hP.after (ih _) (hP.takeClosed v s x)

theorem closeAll (s : State) (v : Setup) (kind : CloseKind) : P s (s.closeAll v kind) :=
  hP.after (hP.takeAllClosed _ v _) hP.still

theorem traceLine (s : State) (v : Setup) (line : ProcessedLine) : P s (s.traceLine v line) := by
  unfold State.traceLine
  dsimp only
  generalize openRuns line _ _ = opened
  obtain ⟨k, d, e⟩ := s.dropRuns_footprint v line opened.2
  rw [e]
  exact hP.after (hP.takeAllClosed _ v _) hP.still

theorem discardLine (s : State) (v : Setup) (line : ProcessedLine) : P s (s.discardLine v line) := by
  unfold State.discardLine
  split
  · exact hP.still
  · exact hP.refl s

theorem correctLine (s : State) (v : Setup) (line : LineInFlight) (raw : List (BitVec 12))
    (withheld : SegMask) : P s (s.correctLine v line raw withheld) := by
  obtain ⟨c, a, k, n, d, e⟩ := s.correctLine_footprint v line raw withheld
  rw [e]
  exact hP.still

theorem abortBuild (s : State) : P s s.abortBuild := by
  obtain ⟨k, e⟩ := s.abortBuild_footprint
  rw [e]
  exact hP.still

/-! ### Modes -/

theorem enterInspecting (s : State) (v : Setup) : P s (s.enterInspecting v) :=
  hP.after (hP.recompute _) (hP.after (hP.coveringTest _ v) hP.still)

theorem referenceDone (s : State) (v : Setup) : P s (s.referenceDone v) := by
  unfold State.referenceDone
  split
  · exact hP.enterInspecting s v
  · exact hP.after (hP.recompute _) hP.still

theorem strandEnd (s : State) (v : Setup) : P s (s.strandEnd v) :=
  hP.after (hP.recompute _) <| hP.after (hP.coveringTest _ v) <| hP.after (hP.startAll _) <|
    hP.after (hP.abortBuild _) <| hP.after (hP.closeAll _ v _) hP.still

theorem abandonNoted (s : State) (v : Setup) : P s (s.abandonNoted v) := by
  unfold State.abandonNoted
  split
  · exact hP.refl s
  · exact hP.still

theorem enterHeadFault (s : State) (v : Setup) : P s (s.enterHeadFault v) := by
  unfold State.enterHeadFault
  extract_lets t port u
  have ht : P s t := hP.after (hP.truncateByFault _) (hP.after (hP.abandonNoted _ v) hP.still)
  have hu : P s u := hP.after hP.still ht
  exact hP.after (hP.coveringTest _ v) (hP.after (hP.abortBuild _) (hP.after (hP.closeAll _ v _) hu))

theorem countTimeout (s : State) (v : Setup) : P s (s.countTimeout v) := by
  unfold State.countTimeout
  dsimp only
  split
  · exact hP.after (hP.enterHeadFault _ v) hP.still
  · exact hP.still

theorem recover (s : State) : P s s.recover :=
  hP.after (hP.recompute _) (hP.after (hP.startAll _) hP.still)

/-! ### Commands of the head port -/

theorem takeStale (s : State) : P s s.takeStale := by
  unfold State.takeStale
  split
  · exact hP.refl s
  · exact hP.still

theorem takeLine (s : State) (line : LineInFlight) (raw : List (BitVec 12)) (withheld : SegMask) :
    P s (s.takeLine line raw withheld) := by
  have hdrop : P s s.dropLine.clearTimeouts := hP.still
  unfold State.takeLine
  dsimp only
  split
  · exact hdrop
  · split
    · exact hP.after (hP.recompute _) (hP.after (hP.correctLine _ _ line raw withheld) hdrop)
    · exact hP.after (hP.recompute _) hdrop

theorem takeArrival (s : State) (tag : BitVec 8) (raw : List (BitVec 12)) (withheld : SegMask) :
    P s (s.takeArrival tag raw withheld) := by
  unfold State.takeArrival
  split
  · exact hP.takeLine s _ raw withheld
  · split
    · exact hP.recover s
    · exact hP.takeStale s

theorem takeLineTimeout (s : State) : P s s.takeLineTimeout := by
  unfold State.takeLineTimeout
  split
  · split
    · exact hP.after (hP.recompute _) (hP.after (hP.countTimeout _ _) hP.still)
    · exact hP.refl s
  · exact hP.refl s

theorem referenceFull (s : State) (scope : Scope) : P s (s.referenceFull scope) := by
  unfold State.referenceFull
  dsimp only
  split
  · exact hP.after (hP.dueTest _) hP.still
  · split
    · exact hP.still
    · exact hP.after (hP.referenceDone _ _) hP.still

theorem takeReadoutTag (s : State) (tag : BitVec 8) (raw : List (BitVec 12)) :
    P s (s.takeReadoutTag tag raw) := by
  unfold State.takeReadoutTag State.takeReadout
  split
  · dsimp only
    split
    · exact hP.after (hP.referenceFull _ _) hP.still
    · exact hP.still
  · exact hP.takeStale s

theorem timeOutReadout (s : State) (v : Setup) (r : Reference) : P s (s.timeOutReadout v r) := by
  have hcycle : ∀ i, P s (((s.count .lineTimeout).truncateCycle i r.taken).countTimeout v) := fun i =>
    hP.after (hP.countTimeout _ v) (hP.after (hP.truncateCycle _ i _) hP.still)
  have hall : P s (((s.count .lineTimeout).renewRequest r.taken).countTimeout v) :=
    hP.after (hP.countTimeout _ v) hP.still
  unfold State.timeOutReadout
  dsimp only
  split <;> split
  · exact hP.after (hP.recompute _) (hcycle _)
  · exact hP.after (hP.dueTest _) (hcycle _)
  · exact hP.after (hP.recompute _) hall
  · exact hall

theorem takeReadoutTimeout (s : State) : P s s.takeReadoutTimeout := by
  unfold State.takeReadoutTimeout
  split
  · split
    · exact hP.timeOutReadout s _ _
    · exact hP.refl s
  · exact hP.refl s

theorem takeProbeTimer (s : State) : P s s.takeProbeTimer := by
  unfold State.takeProbeTimer
  split
  · exact hP.refl s
  · split
    · dsimp only
      split <;> exact hP.still
    · exact hP.refl s

theorem takeProbeTimeout (s : State) : P s s.takeProbeTimeout := by
  unfold State.takeProbeTimeout
  split
  · exact hP.still
  · exact hP.refl s

theorem takeTick (s : State) : P s s.takeTick := by
  unfold State.takeTick
  split
  · split
    · exact hP.after (hP.dueTest _) hP.still
    · exact hP.refl s
  · exact hP.refl s

theorem takeProcessed (s : State) : P s s.takeProcessed := by
  unfold State.takeProcessed
  split
  · dsimp only
    split
    · exact hP.after (hP.recompute _) (hP.after (hP.discardLine _ _ _) hP.still)
    · exact hP.after (hP.lineBoundary _ _) <| hP.after (hP.recompute _) <|
        hP.after (hP.traceLine _ _ _) hP.still
  · exact hP.refl s

/-! ### Commands of the travel unit -/

theorem lineDue (s : State) (v : Setup) : P s (s.lineDue v) := by
  obtain ⟨g, l, m, k, d, e⟩ := s.lineDue_footprint v
  rw [e]
  exact hP.still

theorem positionChanged (s : State) : P s s.positionChanged := by
  unfold State.positionChanged State.raiseHighWater
  split
  · exact hP.refl s
  · split
    · exact hP.after (hP.lineDue _ _) hP.still
    · exact hP.lineDue s _

theorem moveCount (s : State) (dir : Direction) (step : Int) : P s (s.moveCount dir step) := by
  unfold State.moveCount
  dsimp only
  split
  · exact hP.refl s
  · refine hP.after (hP.recomputeIfMoved _ s) (hP.after (hP.markMove _ dir _) ?_)
    split
    · exact hP.still
    · exact hP.after (hP.positionChanged _) hP.still

theorem takePair (s : State) (a b : Bool) : P s (s.takePair a b) := by
  unfold State.takePair
  dsimp only
  split
  · exact hP.refl s
  · exact hP.still
  · exact hP.after (hP.moveCount _ _ _) hP.still
  · exact hP.after (hP.moveCount _ _ _) hP.still

theorem takeRise (s : State) : P s s.takeRise := by
  unfold State.takeRise
  split
  · exact hP.still
  · dsimp only
    split
    · exact hP.still
    · split
      · exact hP.after (hP.enterInspecting _ _) hP.still
      · exact hP.still

theorem takeFall (s : State) : P s s.takeFall := by
  unfold State.takeFall
  split
  · exact hP.refl s
  · split <;> exact hP.still

theorem takeDropout (s : State) : P s s.takeDropout := by
  unfold State.takeDropout
  split
  · dsimp only
    split
    · exact hP.still
    · split
      · exact hP.after (hP.strandEnd _ _) hP.still
      · exact hP.still
  · exact hP.refl s

theorem takeGate (s : State) (high : Bool) : P s (s.takeGate high) := by
  unfold State.takeGate
  dsimp only
  split
  · exact hP.refl s
  · split
    · exact hP.still
    · split
      · exact hP.after (hP.recomputeIfMoved _ s) <| hP.after (hP.coveringTest _ _) <|
          hP.after (hP.lineDue _ _) hP.still
      · exact hP.still

theorem takeCandidate (s : State) (v : Setup) (position : Int) : P s (s.takeCandidate v position) := by
  unfold State.takeCandidate
  split
  · exact hP.still
  · split
    · exact hP.still
    · exact hP.after (hP.takeCut _ v _ _ _) (hP.after (hP.handFrame _ _) hP.still)

theorem takeCutLevel (s : State) (high : Bool) : P s (s.takeCutLevel high) := by
  unfold State.takeCutLevel
  dsimp only
  split
  · exact hP.still
  · split
    · exact hP.after (hP.takeCandidate _ _ _) hP.still
    · exact hP.still

/-! ### The sending side -/

theorem tryToSend (s : State) : P s s.tryToSend := by
  unfold State.tryToSend
  split
  · split <;> exact hP.still
  · exact hP.refl s

theorem loseArbitration (s : State) : P s s.loseArbitration := by
  unfold State.loseArbitration
  split
  · exact hP.still
  · exact hP.refl s

theorem reportDrop (s : State) (body : TxBody) : P s (s.reportDrop body) := by
  cases body with
  | finding f n => exact hP.recompute s
  | _ => exact hP.still

theorem collide (s : State) : P s s.collide := by
  unfold State.collide
  split
  · dsimp only
    split
    · exact hP.still
    · split
      · exact hP.still
      · exact hP.after (hP.reportDrop _ _) hP.still
  · exact hP.refl s

theorem deliverNote (s : State) : P s s.deliverNote := by
  unfold State.deliverNote
  split
  · exact hP.refl s
  · exact hP.after (hP.recompute _) (hP.after hP.still (hP.handEntry s _))

theorem reportSent (s : State) (body : TxBody) (clearTo : Option Int) :
    P s (s.reportSent body clearTo) := by
  cases body with
  | finding f n => exact hP.recompute s
  | horizon =>
    unfold State.reportSent State.horizonSent
    dsimp only
    split
    · exact hP.refl s
    · exact hP.after (hP.deliverNote _) hP.still
  | _ => exact hP.refl s

theorem sentWhole (s : State) : P s s.sentWhole := by
  unfold State.sentWhole
  split
  · dsimp only
    split
    · exact hP.still
    · exact hP.after (hP.reportSent _ _ _) hP.still
  · exact hP.refl s

theorem frameBegins (s : State) : P s s.frameBegins := by
  unfold State.frameBegins
  split
  · exact hP.still
  · exact hP.refl s

theorem firstIdle (s : State) : P s s.firstIdle := by
  unfold State.firstIdle
  split
  · exact hP.still
  · exact hP.refl s

/-! ### Frames from peers -/

theorem receive {hand : FrameHead → List Byte → State → State}
    (hh : ∀ h body u, P u (hand h body u)) (c : FrameClass) (f : RxFrame) (s : State) :
    P s (s.receive c f hand) := by
  unfold State.receive
  split
  · exact hP.refl s
  · split
    · exact hP.firstIdle s
    · split
      · exact hP.still
      · exact hP.still
      · exact hP.still
      · exact hP.after (hh _ _ _) hP.still

theorem hear (s : State) (sender : Nat) : P s (s.hear sender) := by
  unfold State.hear
  split
  · exact hP.refl s
  · exact hP.still

theorem liveChanged (s : State) : P s s.liveChanged := by
  unfold State.liveChanged
  split
  · exact hP.refl s
  · exact hP.after (hP.verdictDecision _ _) (hP.recomputeHorizon s _)

theorem testFace (s : State) (sender face : Nat) : P s (s.testFace sender face) := by
  unfold State.testFace
  split
  · exact hP.still
  · exact hP.refl s

theorem handLeavingGap (s : State) (p : Peer) : P s (s.handLeavingGap p) := by
  unfold State.handLeavingGap
  split
  · exact hP.refl s
  · exact hP.handEntry s _

/-- A record put in the place of its own. -/
theorem setPeer (s : State) (p : Peer) : P s (s.setPeer p) := hP.still

theorem reportMissed (s : State) (missed sender : Nat) (a : Option Int) (b : Int) :
    P s (s.reportMissed missed sender a b) := by
  unfold State.reportMissed
  split
  · exact hP.refl s
  · exact hP.after (hP.handEntry _ _) hP.still

theorem takeCutFrame (h : FrameHead) (body : List Byte) (s : State) :
    P s (State.takeCutFrame h body s) := by
  unfold State.takeCutFrame State.placeCut
  split
  · exact hP.refl s
  · split
    · split
      · exact hP.after hP.still (hP.hear s _)
      · exact hP.after (hP.takeCut _ _ _ _ _) (hP.hear s _)
    · exact hP.refl s

theorem placeFinding (s : State) (p : Peer) (offset : Int) (f : Finding) :
    P s (s.placeFinding p offset f) := by
  have hface : P s (if p.face.isNone then s.testFace p.id f.face else s) := by
    split
    · exact hP.testFace s _ _
    · exact hP.refl s
  exact hP.after (hP.handEntry _ _) <| hP.after (hP.reportMissed _ _ _ _ _) <|
    hP.after (hP.setPeer _ _) hface

theorem takeFindingFrame (h : FrameHead) (body : List Byte) (s : State) :
    P s (State.takeFindingFrame h body s) := by
  unfold State.takeFindingFrame State.takePeerFinding
  split
  · refine hP.after ?_ (hP.hear s h.sender)
    split
    · exact hP.still
    · split
      · exact hP.still
      · exact hP.placeFinding _ _ _ _
  · exact hP.refl s

theorem stepOffset (s : State) (v : Setup) (p : Peer) (offset : Int) :
    P s (s.stepOffset v p offset) := by
  unfold State.stepOffset
  split
  · exact hP.still
  · exact hP.refl s

theorem stepNote (s : State) (sender : Nat) (offset : Int) (note : Option (Int × Int)) :
    P s (s.stepNote sender offset note) := by
  unfold State.stepNote
  split
  · exact hP.refl s
  · exact hP.handEntry s _

theorem stepCovering (s : State) (p : Peer) (covering : Bool) (clearTo : Int) :
    P s (s.stepCovering p covering clearTo) := by
  unfold State.stepCovering
  split
  · exact hP.handEntry s _
  · exact hP.closeGap s _ _ _ _
  · exact hP.refl s

theorem fiveSteps (s : State) (v : Setup) (p : Peer) (b : HorizonBody) : P s (s.fiveSteps v p b) := by
  unfold State.fiveSteps
  extract_lets offset clearTo t u w
  have ht : P s t := hP.after (hP.reportMissed _ _ _ _ _) <|
    hP.after (hP.stepNote _ _ _ _) (hP.stepOffset s v p offset)
  have hw : P s w := hP.after (hP.recomputeHorizon _ v) <| hP.after (hP.setPeer _ _) <|
    hP.after (hP.stepCovering _ _ _ _) ht
  split
  · exact hw
  · exact hP.after (hP.verdictDecision _ v) hw

theorem ensurePeer (s : State) (sender : Nat) : P s (s.ensurePeer sender) := by
  unfold State.ensurePeer
  split
  · exact hP.hear s sender
  · split <;> exact hP.still

theorem takeHorizonFrame (h : FrameHead) (body : List Byte) (s : State) :
    P s (State.takeHorizonFrame h body s) := by
  have he := hP.ensurePeer s h.sender
  unfold State.takeHorizonFrame
  split
  · exact hP.refl s
  · dsimp only
    split
    · split
      · exact hP.after (hP.fiveSteps _ _ _ _) he
      · exact he
    · exact he

theorem takeVerdictFrame (h : FrameHead) (body : List Byte) (s : State) :
    P s (State.takeVerdictFrame h body s) := by
  unfold State.takeVerdictFrame
  split
  · exact hP.after (hP.hearVerdict _ _) (hP.hear s _)
  · exact hP.refl s

theorem takeAnnounce (s : State) (sender face : Nat) : P s (s.takeAnnounce sender face) := by
  unfold State.takeAnnounce
  split
  · split
    · exact hP.still
    · exact hP.after hP.still (hP.testFace s sender face)
  · have hset : ∀ p q : Peer, P s (((s.testFace sender face).handLeavingGap p).setPeer q) :=
      fun p q => hP.after (hP.setPeer _ q) (hP.after (hP.handLeavingGap _ p) (hP.testFace s _ _))
    dsimp only
    split
    · exact hP.after (hP.liveChanged _) (hset _ _)
    · exact hset _ _

theorem takeAnnounceFrame (h : FrameHead) (body : List Byte) (s : State) :
    P s (State.takeAnnounceFrame h body s) := by
  unfold State.takeAnnounceFrame
  split
  · exact hP.refl s
  · split
    · exact hP.after (hP.takeAnnounce _ _ _) (hP.hear s _)
    · exact hP.hear s _

/-! ### Timers of the horizon unit and of the mode controller -/

theorem takeSilence (s : State) (id : Nat) : P s (s.takeSilence id) := by
  unfold State.takeSilence State.silence
  split
  · exact hP.refl s
  · rename_i p _
    have hset : P s ((s.handLeavingGap p).setPeer p.silenced) :=
      hP.after (hP.setPeer _ _) (hP.handLeavingGap s p)
    split
    · dsimp only
      split
      · exact hP.after (hP.liveChanged _) hset
      · exact hset
    · exact hP.refl s

theorem takeHorizonTimer (s : State) : P s s.takeHorizonTimer := by
  unfold State.takeHorizonTimer
  split
  · split
    · exact hP.after (hP.handFrame _ _) hP.still
    · exact hP.refl s
  · exact hP.refl s

theorem takeAnnounceTimer (s : State) : P s s.takeAnnounceTimer := by
  unfold State.takeAnnounceTimer
  split
  · exact hP.refl s
  · split
    · dsimp only
      split
      · exact hP.still
      · exact hP.after (hP.handFrame _ _) hP.still
    · exact hP.refl s

/-! ### Frames from stations -/

theorem takeStatusReqFrame (h : FrameHead) (body : List Byte) (s : State) :
    P s (State.takeStatusReqFrame h body s) := by
  have hreply := hP.handFrame s (s.statusFrame h.sender)
  unfold State.takeStatusReqFrame
  split
  · exact hP.refl s
  · dsimp only
    split
    · exact hP.after hP.still hreply
    · exact hreply

theorem setupHorizon (s : State) (v : Setup) : P s (s.setupHorizon v) :=
  hP.after (hP.openOwnGap _ v) <| hP.after hP.still <| hP.after (hP.recomputeHorizon _ v)
    (hP.newClearTo s v)

theorem acceptSetup (s : State) (v : Setup) : P s (s.acceptSetup v) :=
  hP.after (hP.startAll _) <| hP.after (hP.handFrame _ _) <| hP.after (hP.setupHorizon _ v) hP.still

/-! ### Every command but the end of a reset -/

theorem event {f : State → State} (hf : ∀ s, P s (f s)) {dt : Nat} {s t : State}
    (h : Machine.event dt f s = .next t) : P s t := by
  obtain rfl | ⟨-, rfl⟩ := event_cases h
  · exact hP.still
  · exact hP.after (hf _) hP.still

theorem inputEvent {set : Pins → Pins} {f : State → State} (hf : ∀ s, P s (f s)) {dt : Nat}
    {s t : State} (h : Machine.inputEvent dt set f s = .next t) : P s t := by
  obtain rfl | ⟨-, rfl⟩ := inputEvent_cases h
  · exact hP.still
  · exact hP.after (hf _) hP.still

theorem exec {c : Instr} {s t : State} (he : s.endedBy c = false) (h : Machine.exec c s = .next t) :
    P s t := by
  have frame : ∀ {cl f hand dt}, (∀ h body u, P u (hand h body u)) →
      Machine.event dt (State.receive cl f hand) s = .next t → P s t :=
    fun hh => hP.event (hP.receive hh _ _)
  cases c with
  | encoderTransition dt a b =>
    rw [exec_encoderTransition] at h
    exact hP.inputEvent (hP.takePair · a b) h
  | strandRise dt =>
    rw [exec_strandRise] at h
    refine hP.inputEvent (fun u => ?_) h
    split
    · exact hP.refl u
    · exact hP.takeRise u
  | strandFall dt =>
    rw [exec_strandFall] at h
    refine hP.inputEvent (fun u => ?_) h
    split
    · exact hP.takeFall u
    · exact hP.refl u
  | dropoutTimerExpiry dt => exact hP.event hP.takeDropout h
  | gateChange dt high =>
    rw [exec_gateChange] at h
    exact hP.inputEvent (hP.takeGate · high) h
  | cutInputEdge dt high =>
    rw [exec_cutInputEdge] at h
    exact hP.inputEvent (hP.takeCutLevel · high) h
  | lineArrival dt tag raw w => exact hP.event (hP.takeArrival · tag raw w) h
  | lineTimeout dt => exact hP.event hP.takeLineTimeout h
  | referenceReadout dt tag raw => exact hP.event (hP.takeReadoutTag · tag raw) h
  | readoutTimeout dt => exact hP.event hP.takeReadoutTimeout h
  | probeTimerExpiry dt => exact hP.event hP.takeProbeTimer h
  | probeTimeout dt => exact hP.event hP.takeProbeTimeout h
  | probeArrival dt tag raw w => exact hP.event (hP.takeArrival · tag raw w) h
  | tick dt => exact hP.event hP.takeTick h
  | processedLine dt => exact hP.event hP.takeProcessed h
  | transmitTry dt => exact hP.event hP.tryToSend h
  | arbitrationLost dt => exact hP.event hP.loseArbitration h
  | collision dt => exact hP.event hP.collide h
  | frameSentWhole dt => exact hP.event hP.sentWhole h
  | cutFrame dt f => exact frame hP.takeCutFrame h
  | findingFrame dt f => exact frame hP.takeFindingFrame h
  | horizonFrame dt f => exact frame hP.takeHorizonFrame h
  | verdictFrame dt f => exact frame hP.takeVerdictFrame h
  | announceFrame dt f => exact frame hP.takeAnnounceFrame h
  | statusFrame dt f => exact frame (hand := State.discardFrame) (fun _ _ _ => hP.still) h
  | setupFrame dt f =>
    exact frame (hand := State.takeSetupFrame) (fun _ _ u => hP.acceptSetup u _) h
  | buildFrame dt f => exact frame (hand := State.takeBuildFrame) (fun _ _ _ => hP.still) h
  | statusReqFrame dt f => exact frame hP.takeStatusReqFrame h
  | silenceTimerExpiry dt p => exact hP.event (hP.takeSilence · p) h
  | horizonTimerExpiry dt => exact hP.event hP.takeHorizonTimer h
  | announceTimerExpiry dt => exact hP.event hP.takeAnnounceTimer h
  | powerOnReset dt =>
    injection h with h
    exact h ▸ hP.still
  | pinReset dt =>
    injection h with h
    exact h ▸ hP.still
  | resetEnd dt p =>
    obtain ⟨-, rfl⟩ | ⟨cause, hr, -⟩ := resetEnd_cases h
    · exact hP.still
    · simp [State.endedBy, hr] at he
  | newFrameBegins dt => exact hP.event hP.frameBegins h
  | idleGapAfterReset dt => exact hP.event hP.firstIdle h
  | frameOfUndefinedClass dt f => exact frame (hand := State.discardFrame) (fun _ _ _ => hP.still) h

/-- What holds over every command but the end of a reset holds over every step but that. -/
theorem step {s t : State} (he : s.endsReset = false) (h : Machine.step s = .next t) : P s t := by
  unfold Machine.step at h
  split at h
  · injection h with h
    exact h ▸ hP.refl s
  · rename_i c rest hq
    rw [endsReset_of_pending hq] at he
    exact hP.after (hP.exec (s := { s with pending := rest }) he h) hP.still

end LedgerRelation

end Sys2Proof.Machine
end

section
/-! SUPPORT. Own clear-to and strand horizon over one step (O54). -/

namespace Sys2Proof.Machine

/-- The strand horizon stays at or below the own clear-to if it was, and neither falls (R83, R122). -/
structure HorizonsRise (s t : State) : Prop where
  inv : HorizonInv s → HorizonInv t
  clearTo : s.hz.ownClearTo ≤ t.hz.ownClearTo
  horizon : s.hz.horizon ≤ t.hz.horizon

theorem HorizonsRise.of_eq {s t : State} (hc : t.hz.ownClearTo = s.hz.ownClearTo)
    (hh : t.hz.horizon = s.hz.horizon) : HorizonsRise s t where
  inv h := by
    unfold HorizonInv
    rw [hc, hh]
    exact h
  clearTo := hc.ge
  horizon := hh.ge

/-- The strand horizon rises to the own clear-to at most (R122). -/
theorem recomputeHorizon_rises (s : State) (v : Setup) : HorizonsRise s (s.recomputeHorizon v) := by
  obtain ⟨r, b, m, x, d, e⟩ := s.recomputeHorizon_footprint v
  rw [e]
  exact ⟨fun h => newHorizon_le h le_rfl, le_rfl, le_max_left _ _⟩

theorem horizonsRise_ledger : LedgerRelation HorizonsRise where
  refl _ := .of_eq rfl rfl
  after h k := ⟨h.inv ∘ k.inv, k.clearTo.trans h.clearTo, k.horizon.trans h.horizon⟩
  elsewhere hc hh _ := .of_eq hc hh
  clearToRises s a h := ⟨fun hs => hs.trans h, h, le_rfl⟩
  recomputeHorizon := recomputeHorizon_rises
  handEntry s e := by
    obtain ⟨r, b, m, d, h⟩ := s.handEntry_footprint e
    rw [h]
    exact .of_eq rfl rfl
  closeGap s face subject start stop := by
    obtain ⟨r, h⟩ := s.closeGap_footprint face subject start stop
    rw [h]
    exact .of_eq rfl rfl
  takeCut s v received number position := by
    obtain ⟨r, b, x, d, c, h⟩ := s.takeCut_footprint v received number position
    rw [h]
    exact .of_eq rfl rfl

/-- A reset ends with both at 0 (R85, R107). -/
theorem endReset_horizonInv (s : State) (p : Straps) (cause : ResetCause) :
    HorizonInv (s.endReset p cause) := by
  unfold State.endReset
  dsimp only
  split
  · exact le_rfl
  · obtain ⟨x, d, h⟩ := (s.resetBlocks p cause).handFrame_footprint (s.resetBlocks p cause).announce
    rw [h]
    exact le_rfl

/-- A step that ends a reset leaves the reset values (R199). -/
theorem step_ends_reset {s t : State} (he : s.endsReset = true) (h : step s = .next t) :
    ∃ u p cause, t = State.endReset u p cause := by
  cases hq : s.pending with
  | nil => simp [State.endsReset, hq] at he
  | cons c rest =>
    rw [endsReset_of_pending hq] at he
    unfold step at h
    rw [hq] at h
    cases c with
    | resetEnd dt p =>
      obtain ⟨hr, -⟩ | ⟨cause, -, rfl⟩ := resetEnd_cases h
      · have hr : s.resetting = none := hr
        simp [State.endedBy, hr] at he
      · exact ⟨_, p, cause, rfl⟩
    | _ => exact nomatch he

/-- Settles O54: the strand horizon is recomputed from the own clear-to, both by a maximum with what they
were, and nothing else but the end of a reset writes either. -/
theorem theHorizonsOnlyRise : Obligations.TheHorizonsOnlyRise := by
  intro s t hs h
  cases he : s.endsReset with
  | false =>
    have hrise := horizonsRise_ledger.step he h
    exact ⟨hrise.inv hs, fun _ => ⟨hrise.clearTo, hrise.horizon⟩⟩
  | true =>
    obtain ⟨u, p, cause, rfl⟩ := step_ends_reset he h
    exact ⟨endReset_horizonInv u p cause, nofun⟩

end Sys2Proof.Machine
end

section
/-! SUPPORT. The class of a closed trace (O28), and its severity with what that decides (O29). -/

namespace Sys2Proof.Machine

set_option Elab.async false

/-! ### The class (R76) -/

section
variable {v : Setup} {len : Int} {lo hi : Nat}

theorem classify_transverse (h : v.transverseExtent ≤ hi - lo + 1 ∧ len < v.longitudinalLength) :
    classify v len lo hi = .transverse := if_pos h

/-- The corner zones are told apart by the low one touched and the high one not, or the reverse. -/
theorem classify_corner_iff (h : ¬(v.transverseExtent ≤ hi - lo + 1 ∧ len < v.longitudinalLength)) :
    classify v len lo hi = .corner ↔ ¬(lo < v.cornerZone ↔ (2048 - v.cornerZone : Int) ≤ hi) := by
  have hhigh : Config.columns ≤ hi + v.cornerZone ↔ (2048 - v.cornerZone : Int) ≤ hi := by
    unfold Config.columns
    omega
  unfold classify
  rw [if_neg h, ← hhigh]
  by_cases hz : decide (lo < v.cornerZone) != decide (Config.columns ≤ hi + v.cornerZone)
  · rw [if_pos hz]
    simpa using hz
  · rw [if_neg hz]
    have hz' : lo < v.cornerZone ↔ Config.columns ≤ hi + v.cornerZone := by simpa using hz
    split <;> simp [hz']

theorem classify_of_no_corner (h : ¬(v.transverseExtent ≤ hi - lo + 1 ∧ len < v.longitudinalLength))
    (hz : lo < v.cornerZone ↔ (2048 - v.cornerZone : Int) ≤ hi) :
    classify v len lo hi = if (v.longitudinalLength : Int) ≤ len then .longitudinal else .minor := by
  have hcorner := mt (classify_corner_iff h).mp (not_not_intro hz)
  unfold classify at hcorner ⊢
  rw [if_neg h] at hcorner ⊢
  split at hcorner
  · exact absurd rfl hcorner
  · rename_i hsame
    rw [if_neg hsame]

end

/-- Settles O28: the four tests in the order of R76, and the corner flags by the one zone a CORNER trace
touches. -/
theorem closedTracesAreClassified : Obligations.ClosedTracesAreClassified := by
  intro s v t lo hi len low high f _ _ hlen hlow hhigh hf
  have hcls : f.cls = classify v len lo hi := by rw [hf, hlen]; rfl
  have hflagLow : f.flags.cornerLow = (f.cls == .corner && decide (lo < v.cornerZone)) := by
    rw [hf]; rfl
  have hflagHigh : f.flags.cornerHigh = (f.cls == .corner && !decide (lo < v.cornerZone)) := by
    rw [hf]; rfl
  have hone : f.cls = .corner → ¬(low ↔ high) := by
    intro hc
    rw [hlow, hhigh]
    by_cases ht : v.transverseExtent ≤ hi - lo + 1 ∧ len < v.longitudinalLength
    · rw [hcls, classify_transverse ht] at hc
      exact nomatch hc
    · exact (classify_corner_iff ht).mp (hcls ▸ hc)
  refine ⟨fun ht => hcls.trans (classify_transverse ht), fun ht => ⟨fun hz => ?_, fun hz => ?_⟩, ?_, ?_⟩
  · rw [hcls, classify_corner_iff ht, ← hlow, ← hhigh]
    tauto
  · rw [hcls, classify_of_no_corner ht (by rw [← hlow, ← hhigh, hz])]
    exact ⟨fun hl => if_pos hl, fun hl => if_neg (not_le.mpr hl)⟩
  · rw [hflagLow, hlow]
    simp
  · rw [hflagHigh]
    simp only [Bool.and_eq_true, beq_iff_eq, Bool.not_eq_true', decide_eq_false_iff_not, ← hlow]
    refine and_congr_right fun hc => ?_
    have := hone hc
    tauto

/-! ### The severity (R77) -/

theorem severityOf_eq {v : Setup} {peak : Nat} (h12 : v.s1 < v.s2) (h23 : v.s2 < v.s3) :
    (peak < v.s1 → severityOf v peak = 0)
    ∧ (v.s1 ≤ peak → peak < v.s2 → severityOf v peak = 1)
    ∧ (v.s2 ≤ peak → peak < v.s3 → severityOf v peak = 2)
    ∧ (v.s3 ≤ peak → severityOf v peak = 3) := by
  unfold severityOf
  refine ⟨fun h => if_pos h, fun h1 h2 => ?_, fun h2 h3 => ?_, fun h3 => ?_⟩
  · rw [if_neg (by omega), if_pos h2]
  · rw [if_neg (by omega), if_neg (by omega), if_pos h3]
  · rw [if_neg (by omega), if_neg (by omega), if_neg (by omega)]

section
variable {v : Setup} {s : State} {t : Trace} {lo hi : Nat} (he : t.extent = some (lo, hi))
include he

theorem takeClosed_dismisses (hc : (s.findingOf v t lo hi).cls = .minor)
    (hs : (s.findingOf v t lo hi).severity = 0) : State.takeClosed v s t = s.count .dismissed := by
  unfold State.takeClosed
  rw [he]
  exact if_pos ⟨hc, hs⟩

theorem takeClosed_finds (h : (s.findingOf v t lo hi).cls ≠ .minor
    ∨ (s.findingOf v t lo hi).severity ≠ 0) :
    State.takeClosed v s t = s.handFinding (s.findingOf v t lo hi) := by
  unfold State.takeClosed
  rw [he]
  exact if_neg (by tauto)

end

/-- A finding takes its id, and nothing it is handed to gives another (R79). -/
theorem handFinding_tracer (s : State) (f : Finding) :
    (s.handFinding f).tracer = { s.tracer with
      nextId := (s.tracer.nextId + 1) % 65536, made := s.tracer.made + 1 } := by
  unfold State.handFinding
  dsimp only
  generalize hu : ({ s with tracer := _ } : State) = u
  obtain ⟨r, b, m, d, e⟩ := u.handEntry_footprint (.finding f)
  obtain ⟨x, d', e'⟩ := (u.handEntry (.finding f)).handFrame_footprint
    (u.toStrand f.test (.finding f s.tracer.made))
  rw [e', e, ← hu]

/-- Settles O29: the severity by the thresholds, and the way of a closed trace by class and severity. -/
theorem severityDecidesDismissal : Obligations.SeverityDecidesDismissal := by
  refine ⟨fun v peak => severityOf_eq, ?_⟩
  rintro v s t lo hi f he rfl
  refine ⟨rfl, takeClosed_dismisses he, fun h => ?_⟩
  have hfinds := takeClosed_finds he h
  exact ⟨hfinds, rfl, by rw [hfinds, handFinding_tracer]⟩

end Sys2Proof.Machine
end

section
/-! SUPPORT. What the tracer makes of its oldest line: what a taken line can write (R60), and the trace table
it leaves where the line has no run, meets an empty table, or has one run of one group (R61 to R70). -/

namespace Sys2Proof.Machine

set_option Elab.async false

/-! ### What a taken line writes (R60) -/

theorem closedBefore_iff (s : State) (line : ProcessedLine) :
    s.closedBefore line = true ↔ ∃ c, s.tracer.lastClose = some c ∧ line.position ≤ c.position := by
  unfold State.closedBefore
  rw [Option.any_eq_true]
  exact exists_congr fun c => and_congr_right fun _ => decide_eq_true_iff

/-- The oldest line has left those that await the tracer. -/
def State.lineTaken (s : State) (rest : List ProcessedLine) : State :=
  { s with tracer := { s.tracer with awaiting := rest } }

section
variable {s : State} {v : Setup} {line : ProcessedLine} {rest : List ProcessedLine}
  (hv : s.ctl.setup = some v) (ha : s.tracer.awaiting = line :: rest)
include hv ha

theorem takeProcessed_of_closed (h : s.closedBefore line = true) :
    s.takeProcessed = ((s.lineTaken rest).discardLine v line).recompute := by
  unfold State.takeProcessed
  rw [ha, hv]
  exact if_pos h

theorem takeProcessed_of_open (h : s.closedBefore line = false) :
    s.takeProcessed = (((s.lineTaken rest).traceLine v line).recompute).lineBoundary v := by
  unfold State.takeProcessed
  rw [ha, hv]
  exact if_neg (Bool.not_eq_true _ ▸ h)

end

theorem State.takeAllClosed_reports (s : State) (v : Setup) (closed : List Trace) :
    Reports s (s.takeAllClosed v closed) := by
  unfold State.takeAllClosed
  generalize closedOrder closed = xs
  induction xs generalizing s with
  | nil => exact .refl s
  | cons x rest ih => exact (ih _).after (s.takeClosed_reports v x)

/-- How many runs of a line find no slot (R67). -/
def runsDropped (v : Setup) (line : ProcessedLine) (slots : List (Option Trace)) : Nat :=
  (openRuns line (line.runs.filter fun r => (matchedSlots slots v.columnTolerance r).isEmpty)
    ((groupsOf slots v.columnTolerance line.runs).foldl (applyGroup line) slots)).2

/-- A traced line writes the trace table and, where runs were dropped, the note list; all else is reports. -/
theorem traceLine_reported (s : State) (v : Setup) (line : ProcessedLine) :
    ∃ i n p, s.traceLine v line
      = { s with
          tracer := { s.tracer with
            slots := (agedTable v line s.tracer.slots).map (keptIn line v.linePitch v.gapLines)
            nextId := i, made := n }
          hz := { s.hz with notes :=
            (s.dropRuns v line (runsDropped v line s.tracer.slots)).hz.notes } }.reported p := by
  obtain ⟨k, d, e⟩ := s.dropRuns_footprint v line (runsDropped v line s.tracer.slots)
  have htrace : s.traceLine v line = State.takeAllClosed
      { s.dropRuns v line (runsDropped v line s.tracer.slots) with
        tracer := { (s.dropRuns v line (runsDropped v line s.tracer.slots)).tracer with
          slots := (agedTable v line s.tracer.slots).map (keptIn line v.linePitch v.gapLines) } } v
      ((agedTable v line s.tracer.slots).filterMap (closedIn v.gapLines)) := rfl
  rw [htrace, e]
  generalize hu : State.takeAllClosed _ v _ = u
  obtain ⟨i, n, r, b, m, x, d', e'⟩ := State.takeAllClosed_footprint _ v _
  obtain ⟨q, w, hx⟩ := (State.takeAllClosed_reports _ v _).xcvr
  rw [hu] at e' hx
  obtain rfl : x = _ := (congrArg State.xcvr e').symm.trans hx
  exact ⟨i, n, ⟨s.hz.ownClearTo, s.hz.horizon, r, b, m, q, w, d'⟩, e'⟩

/-- The line boundary asks at most for a reference of the head (R32). -/
theorem lineBoundary_writes (s : State) (v : Setup) :
    ∃ g r m c, s.lineBoundary v
      = { s with head := { s.head with tag := g, reference := r, sent := m }, sched := c } := by
  unfold State.lineBoundary
  split
  · exact ⟨_, _, _, _, rfl⟩
  · split
    · split <;> exact ⟨_, _, _, _, rfl⟩
    · exact ⟨_, _, _, _, rfl⟩

/-- A discarded line leaves a note after a head fault alone (R60). -/
theorem discardLine_eq (s : State) (v : Setup) (line : ProcessedLine) {c : LastClose}
    (hc : s.tracer.lastClose = some c) :
    s.discardLine v line = { s with hz := { s.hz with notes :=
      (if c.kind = .headFault then
        mergeRange v.linePitch s.hz.inDelivery.isSome s.hz.notes line.position line.position
      else s.hz.notes) } } := by
  unfold State.discardLine
  rw [hc]
  by_cases h : c.kind = .headFault
  · rw [if_pos (by simpa using h), if_pos h]
    rfl
  · rw [if_neg (by simpa using h), if_neg h]

section
variable {s : State} {v : Setup} {line : ProcessedLine} {rest : List ProcessedLine}
  (hv : s.ctl.setup = some v) (ha : s.tracer.awaiting = line :: rest)
include hv ha

theorem takeProcessed_closed_reported {c : LastClose} (hc : s.tracer.lastClose = some c)
    (h : line.position ≤ c.position) :
    ∃ p, s.takeProcessed
      = { s with
          tracer := { s.tracer with awaiting := rest }
          hz := { s.hz with notes :=
            (if c.kind = CloseKind.headFault then
              mergeRange v.linePitch s.hz.inDelivery.isSome s.hz.notes line.position line.position
            else s.hz.notes) } }.reported p := by
  rw [takeProcessed_of_closed hv ha ((closedBefore_iff s line).mpr ⟨c, hc, h⟩),
    discardLine_eq (s.lineTaken rest) v line hc]
  exact State.recompute_reported _

theorem takeProcessed_open_reported (h : ∀ c ∈ s.tracer.lastClose, c.position < line.position) :
    ∃ g r m c i n p, s.takeProcessed
      = { s with
          head := { s.head with tag := g, reference := r, sent := m }, sched := c
          tracer := { s.tracer with
            awaiting := rest
            slots := (agedTable v line s.tracer.slots).map (keptIn line v.linePitch v.gapLines)
            nextId := i, made := n }
          hz := { s.hz with notes :=
            (s.dropRuns v line (runsDropped v line s.tracer.slots)).hz.notes } }.reported p := by
  have hopen : s.closedBefore line = false := by
    rw [← Bool.not_eq_true, closedBefore_iff]
    rintro ⟨c, hc, hle⟩
    exact absurd (h c hc) (not_lt.mpr hle)
  obtain ⟨i, n, p, e⟩ := traceLine_reported (s.lineTaken rest) v line
  obtain ⟨p', e'⟩ := ((s.lineTaken rest).traceLine v line).recompute_reported
  obtain ⟨g, r, m, c, e''⟩ := lineBoundary_writes ((s.lineTaken rest).traceLine v line).recompute v
  have hnotes : ((s.lineTaken rest).dropRuns v line (runsDropped v line s.tracer.slots)).hz
      = (s.dropRuns v line (runsDropped v line s.tracer.slots)).hz := by
    unfold State.dropRuns
    split <;> rfl
  refine ⟨g, r, m, c, i, n, p', ?_⟩
  rw [takeProcessed_of_open hv ha hopen, e'', e', e, ← hnotes]
  rfl

end

/-! ### Aging (R68, R69) -/

/-- A last span within the line is blind segment by segment just when it is column by column (R69). -/
theorem whollyBlind_eq {x : Trace} (h : InLine x.spanLo x.spanHi) (blind : SegMask) :
    x.whollyBlind blind = (List.range 2048).all fun p =>
      p < x.spanLo || x.spanHi < p || blind.getLsbD (p / 256) := by
  obtain ⟨hle, hlt⟩ := h
  rw [Bool.eq_iff_iff]
  unfold Trace.whollyBlind segOf SegMask.has Config.segColumns
  simp only [List.all_eq_true, List.mem_range, Bool.or_eq_true, Bool.not_eq_true',
    Bool.and_eq_false_iff, decide_eq_true_eq, decide_eq_false_iff_not]
  constructor
  · intro hseg p hp
    by_cases hin : x.spanLo ≤ p ∧ p ≤ x.spanHi
    · exact .inr ((hseg (p / 256) (by omega)).resolve_left (by omega))
    · exact .inl (by omega)
  · intro hcol k hk
    by_cases hin : x.spanLo / 256 ≤ k ∧ k ≤ x.spanHi / 256
    · have hp := (hcol (max x.spanLo (256 * k)) (by omega)).resolve_left (by omega)
      have hseg : max x.spanLo (256 * k) / 256 = k := by omega
      exact .inr (hseg ▸ hp)
    · exact .inl (by omega)

theorem age_lines (x : Trace) (blind : SegMask) : (x.age blind).lines = x.lines := by
  unfold Trace.age
  split <;> rfl

/-- A slot in no group and taken at the start ages. -/
theorem ageSlots_of_no_group (blind : SegMask) (slots : List (Option Trace)) :
    ageSlots blind [] slots slots = slots.map (Option.map (Trace.age · blind)) := by
  refine List.ext_getElem (by simp [ageSlots]) fun i hi _ => ?_
  have hlen : i < slots.length := by simpa [ageSlots] using hi
  cases h : slots[i] <;> simp [ageSlots, List.getD_eq_getElem?_getD, hlen, h]

/-- A slot of a group of the line does not age. -/
theorem ageSlots_getElem?_of_mem (blind : SegMask) {extended : List Nat}
    (before slots : List (Option Trace)) {i : Nat} (h : i ∈ extended) :
    (ageSlots blind extended before slots)[i]? = slots[i]? := by
  unfold ageSlots
  rw [List.getElem?_mapIdx]
  simp [h]

theorem getD_replicate_none (n i : Nat) : (List.replicate n (none : Option Trace)).getD i none = none := by
  rw [List.getD_eq_getElem?_getD, List.getElem?_replicate]
  split <;> rfl

/-- What opened on an empty table does not age. -/
theorem ageSlots_of_empty (blind : SegMask) (extended : List Nat) (n : Nat)
    (slots : List (Option Trace)) :
    ageSlots blind extended (List.replicate n none) slots = slots := by
  unfold ageSlots
  simp only [getD_replicate_none, Option.isSome_none, Bool.false_and, Bool.false_eq_true, if_false]
  exact List.ext_getElem (by simp) fun i _ _ => by simp

/-! ### Closing (R70, R71) -/

/-- Short of the lines at which a trace splits, idle alone decides what is kept. -/
theorem keptIn_eq_filter (line : ProcessedLine) (pitch gapLines : Nat) {slot : Option Trace}
    (h : ∀ x ∈ slot, x.lines < 4096) :
    keptIn line pitch gapLines slot = slot.filter fun u => u.idle ≤ gapLines := by
  cases slot with
  | none => rfl
  | some x =>
    have hsplit : ¬ Config.splitLines ≤ x.lines := not_le.mpr (h x rfl)
    unfold keptIn
    dsimp only
    rw [if_neg hsplit]
    by_cases hidle : x.idle ≤ gapLines
    · rw [if_neg (not_lt.mpr hidle), Option.filter_some_pos (by simpa using hidle)]
    · rw [if_pos (not_le.mp hidle), Option.filter_some_neg (by simpa using hidle)]

/-- A trace extended or opened by the line is kept. -/
theorem keptIn_of_not_idle (line : ProcessedLine) (pitch gapLines : Nat) {x : Trace} (hi : x.idle = 0)
    (hl : x.lines < 4096) : keptIn line pitch gapLines (some x) = some x := by
  rw [keptIn_eq_filter line pitch gapLines fun u hu => by cases hu; exact hl]
  exact Option.filter_some_pos (by simp [hi])

/-! ### A line without runs -/

theorem agedTable_of_no_runs (v : Setup) {line : ProcessedLine} (h : line.runs = [])
    (slots : List (Option Trace)) :
    agedTable v line slots = slots.map (Option.map (Trace.age · line.blind)) := by
  unfold agedTable
  rw [h]
  exact ageSlots_of_no_group line.blind slots

theorem keptIn_age (line : ProcessedLine) (v : Setup) {slot : Option Trace}
    (h : ∀ x ∈ slot, x.Lawful v) :
    keptIn line v.linePitch v.gapLines (slot.map (Trace.age · line.blind))
      = (slot.map fun x =>
          if (List.range 2048).all fun p =>
              p < x.spanLo || x.spanHi < p || line.blind.getLsbD (p / 256)
          then { x with flags := { x.flags with held := true } }
          else { x with idle := x.idle + 1 }).filter fun u => u.idle ≤ v.gapLines := by
  cases slot with
  | none => rfl
  | some x =>
    obtain ⟨-, hlines, hspan⟩ := h x rfl
    rw [keptIn_eq_filter]
    · simp only [Option.map_some, Trace.age, whollyBlind_eq hspan]
    · rintro u hu
      cases hu
      rw [age_lines]
      omega

/-! ### A line on an empty table -/

theorem matchedSlots_of_empty (n tolerance : Nat) (r : Run) :
    matchedSlots (List.replicate n none) tolerance r = [] := by
  unfold matchedSlots
  refine List.filter_eq_nil_iff.mpr fun i _ => ?_
  rw [getD_replicate_none]
  exact Bool.false_ne_true

theorem groupsOf_of_empty (n tolerance : Nat) (runs : List Run) :
    groupsOf (List.replicate n none) tolerance runs = [] := by
  unfold groupsOf
  induction runs with
  | nil => rfl
  | cons r rest ih =>
    rw [List.foldl_cons, matchedSlots_of_empty]
    exact ih

theorem openSlot_lowest (t : Trace) (full : List Trace) (rest : List (Option Trace)) :
    openSlot t (full.map some ++ none :: rest) = some ((full ++ [t]).map some ++ rest) := by
  induction full with
  | nil => rfl
  | cons u full ih =>
    rw [List.map_cons, List.cons_append, openSlot, ih]
    rfl

/-- Runs on free slots enough open traces in their order, and none is dropped. -/
theorem openRuns_of_room (line : ProcessedLine) {runs : List Run} {n : Nat} (h : runs.length ≤ n)
    (full : List Trace) :
    openRuns line runs (full.map some ++ List.replicate n none)
      = ((full ++ runs.map (openTrace line)).map some ++ List.replicate (n - runs.length) none, 0) := by
  induction runs generalizing n full with
  | nil => simp [openRuns]
  | cons r rest ih =>
    obtain ⟨m, rfl⟩ : ∃ m, n = m + 1 := ⟨n - 1, by simp at h; omega⟩
    rw [List.replicate_succ, openRuns, openSlot_lowest]
    dsimp only
    rw [ih (by simpa using h)]
    simp

section
variable {line : ProcessedLine} {n : Nat} (h : line.runs.length ≤ n) (v : Setup)
include h

theorem openRuns_of_empty :
    openRuns line (line.runs.filter fun r =>
        (matchedSlots (List.replicate n none) v.columnTolerance r).isEmpty)
      ((groupsOf (List.replicate n none) v.columnTolerance line.runs).foldl (applyGroup line)
        (List.replicate n none))
      = ((line.runs.map (openTrace line)).map some ++ List.replicate (n - line.runs.length) none, 0) := by
  have hfree : (line.runs.filter fun r =>
      (matchedSlots (List.replicate n none) v.columnTolerance r).isEmpty) = line.runs :=
    List.filter_eq_self.mpr fun r _ => by rw [matchedSlots_of_empty]; rfl
  rw [hfree, groupsOf_of_empty]
  exact openRuns_of_room line h []

theorem agedTable_of_empty :
    agedTable v line (List.replicate n none)
      = (line.runs.map (openTrace line)).map some ++ List.replicate (n - line.runs.length) none := by
  unfold agedTable
  dsimp only
  rw [openRuns_of_empty h v, ageSlots_of_empty]

theorem runsDropped_of_empty : runsDropped v line (List.replicate n none) = 0 := by
  unfold runsDropped
  rw [openRuns_of_empty h v]

theorem keptTable_of_empty :
    (agedTable v line (List.replicate n none)).map (keptIn line v.linePitch v.gapLines)
      = (line.runs.map (openTrace line)).map some ++ List.replicate (n - line.runs.length) none := by
  rw [agedTable_of_empty h v, List.map_append, List.map_map, List.map_replicate]
  congr 1
  refine List.map_congr_left fun x hx => ?_
  obtain ⟨r, -, rfl⟩ := List.mem_map.mp hx
  exact keptIn_of_not_idle line _ _ rfl (by decide : 1 < 4096)

end

/-! ### One run of one group (R61 to R65) -/

theorem groupsOf_one {slots : List (Option Trace)} {tolerance : Nat} {r : Run}
    (hlen : slots.length = 32) (h : matchedSlots slots tolerance r ≠ []) :
    groupsOf slots tolerance [r] = [{ slots := matchedSlots slots tolerance r, runs := [r] }] := by
  have hslots : ((List.range 32).filter fun k => (matchedSlots slots tolerance r).contains k)
      = matchedSlots slots tolerance r := by
    unfold matchedSlots
    rw [hlen]
    refine List.filter_congr fun k hk => ?_
    rw [Bool.eq_iff_iff, List.contains_iff_mem, List.mem_filter]
    exact and_iff_right hk
  simp only [List.contains_eq_mem] at hslots
  simp [groupsOf, linkRun, h, hslots, Config.traceSlots]

/-- A run that matches a trace opens none: the slots of its group hold what the group leaves. -/
theorem agedTable_of_one_run {v : Setup} {line : ProcessedLine} {slots : List (Option Trace)} {r : Run}
    (hruns : line.runs = [r]) (hlen : slots.length = 32) {is : List Nat} (hne : is ≠ [])
    (his : matchedSlots slots v.columnTolerance r = is) {k : Nat} (hk : k ∈ is) :
    (agedTable v line slots)[k]? = (applyGroup line slots { slots := is, runs := [r] })[k]? := by
  have hfree : ([r].filter fun r => (matchedSlots slots v.columnTolerance r).isEmpty) = [] := by
    simp [his, hne]
  have hgroups : groupsOf slots v.columnTolerance [r] = [{ slots := is, runs := [r] }] :=
    his ▸ groupsOf_one hlen (his ▸ hne)
  unfold agedTable
  rw [hruns, hfree, hgroups]
  exact ageSlots_getElem?_of_mem _ _ _ (by simpa using hk)

theorem oldestSlot_one {slots : List (Option Trace)} {i : Nat} {x : Trace}
    (hx : slots[i]? = some (some x)) : oldestSlot slots [i] = some (i, x) := by
  simp [oldestSlot, List.getD_eq_getElem?_getD, hx]

theorem oldestSlot_two {slots : List (Option Trace)} {i j : Nat} {x y : Trace}
    (hx : slots[i]? = some (some x)) (hy : slots[j]? = some (some y)) :
    oldestSlot slots [i, j] = if x.first ≤ y.first then some (i, x) else some (j, y) := by
  simp [oldestSlot, List.getD_eq_getElem?_getD, hx, hy]

/-- The trace that a run of a line extends (R63 to R65). -/
theorem extend_one (x : Trace) (line : ProcessedLine) (r : Run) :
    x.extend line [r] = { x with
      last := line.position, spanLo := r.lo, spanHi := r.hi
      extent := coverExtent x.extent (some (r.lo, r.hi))
      peak := max x.peak r.peak, lines := x.lines + 1, idle := 0
      flags := x.flags.union { unverified := r.inSet line.stale, crowded := line.crowded } } := by
  simp [Trace.extend, runsExtent, coverExtent, lineFlags, FindingFlags.union]

theorem applyGroup_one {line : ProcessedLine} {slots : List (Option Trace)} {i : Nat} {x : Trace}
    (hx : slots[i]? = some (some x)) (r : Run) :
    applyGroup line slots { slots := [i], runs := [r] }
      = slots.set i (some (x.extend line [r])) := by
  simp [applyGroup, oldestSlot_one hx, FindingFlags.union]

/-- Of two traces joined the older takes the other in and is extended, and the other's slot is free. -/
theorem applyGroup_two {line : ProcessedLine} {slots : List (Option Trace)} {is : List Nat} {m n : Nat}
    {a b : Trace} (hold : oldestSlot slots is = some (m, a)) (hothers : is.filter (· != m) = [n])
    (hb : slots[n]? = some (some b)) (r : Run) :
    applyGroup line slots { slots := is, runs := [r] }
      = (slots.set n none).set m (some (Trace.extend { a.absorb b with
          flags := (a.absorb b).flags.union { branched := true } } line [r])) := by
  simp [applyGroup, hold, hothers, List.getD_eq_getElem?_getD, hb]

end Sys2Proof.Machine
end

section
/-! SUPPORT. The trace table after a line of one run that matches one trace or two (O24), and what a taken line
makes of the node (O23). -/

namespace Sys2Proof.Machine

set_option Elab.async false

/-! ### The traces that a run matches (R61) -/

theorem mem_matchedSlots {slots : List (Option Trace)} {tolerance : Nat} {r : Run} {k : Nat} :
    k ∈ matchedSlots slots tolerance r
      ↔ ∃ w, slots[k]? = some (some w) ∧ r.matchesSpan w.spanLo w.spanHi tolerance = true := by
  unfold matchedSlots
  rw [List.mem_filter, List.mem_range, Option.any_eq_true, List.getD_eq_getElem?_getD]
  by_cases hk : k < slots.length <;> simp [hk]

theorem pairwise_matchedSlots (slots : List (Option Trace)) (tolerance : Nat) (r : Run) :
    (matchedSlots slots tolerance r).Pairwise (· < ·) := List.pairwise_lt_range.filter _

section
variable {v : Setup} {line : ProcessedLine} {slots : List (Option Trace)} {r : Run}
  (hruns : line.runs = [r]) (hlen : slots.length = 32)
include hruns hlen

theorem keptTable_of_one_run {is : List Nat} (his : matchedSlots slots v.columnTolerance r = is)
    {k : Nat} (hk : k ∈ is) {slot : Option Trace}
    (hslot : (applyGroup line slots { slots := is, runs := [r] })[k]? = some slot) :
    ((agedTable v line slots).map (keptIn line v.linePitch v.gapLines))[k]?
      = some (keptIn line v.linePitch v.gapLines slot) := by
  rw [List.getElem?_map, agedTable_of_one_run hruns hlen (List.ne_nil_of_mem hk) his hk, hslot]
  rfl

/-- The one trace a run matches is extended (R63 to R65). -/
theorem keptTable_extends {i : Nat} {x : Trace} (his : matchedSlots slots v.columnTolerance r = [i])
    (hx : slots[i]? = some (some x)) (hl : x.lines + 1 < 4096) :
    ((agedTable v line slots).map (keptIn line v.linePitch v.gapLines))[i]?
      = some (some (x.extend line [r])) := by
  obtain ⟨hi, -⟩ := List.getElem?_eq_some_iff.mp hx
  rw [keptTable_of_one_run hruns hlen his (List.mem_singleton_self i) (slot := some (x.extend line [r]))]
  · rw [keptIn_of_not_idle line _ _ rfl hl]
  · rw [applyGroup_one hx, List.getElem?_set_self hi]

/-- Of the two traces a run matches the older takes the other in and is extended (R62 to R65). -/
theorem keptTable_joins {is : List Nat} (his : matchedSlots slots v.columnTolerance r = is) {m n : Nat}
    {a b : Trace} (hm : slots[m]? = some (some a)) (hn : slots[n]? = some (some b)) (hmn : m ≠ n)
    (hmem : m ∈ is) (hnem : n ∈ is) (hold : oldestSlot slots is = some (m, a))
    (hothers : is.filter (· != m) = [n]) (ha : a.lines + 1 < 4096) (hb : b.lines + 1 < 4096) :
    ((agedTable v line slots).map (keptIn line v.linePitch v.gapLines))[n]? = some none
    ∧ ((agedTable v line slots).map (keptIn line v.linePitch v.gapLines))[m]?
      = some (some {
          first := a.first, last := line.position, spanLo := r.lo, spanHi := r.hi
          extent := coverExtent (coverExtent a.extent b.extent) (some (r.lo, r.hi))
          peak := max (max a.peak b.peak) r.peak, lines := max a.lines b.lines + 1, idle := 0
          flags := (a.flags.union b.flags).union
            { branched := true, unverified := r.inSet line.stale, crowded := line.crowded } }) := by
  obtain ⟨hmlt, -⟩ := List.getElem?_eq_some_iff.mp hm
  obtain ⟨hnlt, -⟩ := List.getElem?_eq_some_iff.mp hn
  have happly := applyGroup_two (line := line) hold hothers hn r
  constructor
  · refine keptTable_of_one_run hruns hlen his hnem (slot := none) ?_
    rw [happly, List.getElem?_set_ne hmn, List.getElem?_set_self hnlt]
  · rw [keptTable_of_one_run hruns hlen his hmem (by
      rw [happly]
      exact List.getElem?_set_self (by rwa [List.length_set]))]
    have hlines : max a.lines b.lines + 1 < 4096 := by omega
    rw [keptIn_of_not_idle line _ _ rfl hlines, extend_one]
    simp [Trace.absorb, FindingFlags.union]

end

/-! ### The two statements -/

/-- Outside a reset the command takes the line with node time passed. -/
theorem exec_processedLine_running {s : State} (hr : s.resetting = none) (dt : Nat) :
    exec (.processedLine dt) s = .next (s.begin dt).takeProcessed := event_running hr dt _

theorem takeProcessed_open_slots {s : State} {v : Setup} {line : ProcessedLine}
    {rest : List ProcessedLine} (hv : s.ctl.setup = some v) (ha : s.tracer.awaiting = line :: rest)
    (h : ∀ c ∈ s.tracer.lastClose, c.position < line.position) :
    s.takeProcessed.tracer.slots
      = (agedTable v line s.tracer.slots).map (keptIn line v.linePitch v.gapLines) := by
  obtain ⟨g, r, m, c, i, n, p, e⟩ := takeProcessed_open_reported hv ha h
  rw [e]
  rfl

/-- Settles O24: the run's group holds the slots it matches, one or two, and what the group leaves in them is
neither aged nor closed. -/
theorem matchedRunsExtendAndJoin : Obligations.MatchedRunsExtendAndJoin := by
  intro dt s v line rest r i j x y hr hv hlen ha hopen hruns hx hy hmatch
  have hmem : ∀ k, k ∈ matchedSlots s.tracer.slots v.columnTolerance r ↔ k = i ∨ k = j := by
    intro k
    rw [mem_matchedSlots]
    simp only [Run.matchesSpan, Bool.and_eq_true, decide_eq_true_eq]
    constructor
    · rintro ⟨w, hw, hm⟩
      exact (hmatch k w hw).mp hm
    · rintro (rfl | rfl)
      · exact ⟨x, hx, (hmatch _ x hx).mpr (.inl rfl)⟩
      · exact ⟨y, hy, (hmatch _ y hy).mpr (.inr rfl)⟩
  have hsorted := pairwise_matchedSlots s.tracer.slots v.columnTolerance r
  have hslots := takeProcessed_open_slots (s := s.begin dt) hv ha hopen
  refine ⟨_, exec_processedLine_running hr dt, ?_, ?_⟩ <;> rw [hslots]
  · rintro rfl hl
    have his : matchedSlots s.tracer.slots v.columnTolerance r = [i] :=
      hsorted.eq_of_mem_iff (List.pairwise_singleton _ i) fun k => by simp [hmem]
    exact (keptTable_extends hruns hlen his hx hl).trans (by rw [extend_one])
  · intro hij hlx hly m n a b hmn
    have his : matchedSlots s.tracer.slots v.columnTolerance r = [i, j] :=
      hsorted.eq_of_mem_iff (List.pairwise_pair.mpr hij) fun k => by simp [hmem]
    have hold := oldestSlot_two hx hy
    by_cases hle : x.first ≤ y.first
    · rw [if_pos hle] at hold hmn
      obtain ⟨rfl, rfl, rfl, rfl⟩ : m = i ∧ n = j ∧ a = x ∧ b = y := by simpa using hmn
      exact keptTable_joins hruns hlen his hx hy hij.ne (by simp) (by simp) hold
        (by simp [hij.ne']) hlx hly
    · rw [if_neg hle] at hold hmn
      obtain ⟨rfl, rfl, rfl, rfl⟩ : m = j ∧ n = i ∧ a = y ∧ b = x := by simpa using hmn
      exact keptTable_joins hruns hlen his hy hx hij.ne' (by simp) (by simp) hold
        (by simp [hij.ne]) hly hlx

/-- Settles O23: a closed line is discarded; on any other the table is that of aging alone where the line has
no run, and that of opening alone where no trace was open. -/
theorem processedLinesAgeAndOpenTraces : Obligations.ProcessedLinesAgeAndOpenTraces := by
  intro dt s v line rest hr hv hinv _ ha
  obtain ⟨-, hlaw⟩ := (traceInv_some hv).mp hinv
  refine ⟨_, exec_processedLine_running hr dt, ?_, fun c hc hle => ?_, fun hopen => ?_⟩
  · by_cases hopen : ∀ c ∈ s.tracer.lastClose, c.position < line.position
    · obtain ⟨g, r, m, c, i, n, p, e⟩ := takeProcessed_open_reported (s := s.begin dt) hv ha hopen
      rw [e]
      rfl
    · push Not at hopen
      obtain ⟨c, hc, hle⟩ := hopen
      obtain ⟨p, e⟩ := takeProcessed_closed_reported (s := s.begin dt) hv ha hc hle
      rw [e]
      rfl
  · obtain ⟨p, e⟩ := takeProcessed_closed_reported (s := s.begin dt) hv ha hc hle
    rw [e]
    exact ⟨rfl, rfl, rfl⟩
  · have hslots := takeProcessed_open_slots (s := s.begin dt) hv ha hopen
    refine ⟨fun hruns => ?_, fun hempty hroom => ⟨?_, ?_⟩⟩
    · rw [hslots, agedTable_of_no_runs v hruns, List.map_map]
      exact List.map_congr_left fun slot hslot => keptIn_age line v (hlaw slot hslot)
    · obtain ⟨g, r, m, c, i, n, p, e⟩ := takeProcessed_open_reported (s := s.begin dt) hv ha hopen
      have hnone : runsDropped v line (s.begin dt).tracer.slots = 0 := by
        rw [State.begin_tracer, hempty, runsDropped_of_empty hroom v]
      rw [hnone] at e
      rw [e]
      rfl
    · rw [hslots, State.begin_tracer, hempty, keptTable_of_empty hroom v, List.map_map]
      simp [openTrace, lineFlags]

end Sys2Proof.Machine
end

section
/-! SUPPORT. The send side: transmit queue, send state, taken copy, line state and the note in delivery. Outside
the tries and the line, a command reaches it only by frames handed on and lines noted: a law that these keep is
kept by every such command, and by the hand-off of every qualified frame. -/

namespace Sys2Proof.Machine

set_option Elab.async false

/-- What is done with a qualified frame of each class. -/
def FrameClass.hand (c : FrameClass) : FrameHead → List Byte → State → State :=
  match c with
  | .cut => State.takeCutFrame
  | .finding => State.takeFindingFrame
  | .horizon => State.takeHorizonFrame
  | .verdict => State.takeVerdictFrame
  | .announce => State.takeAnnounceFrame
  | .status => State.discardFrame
  | .setup => State.takeSetupFrame
  | .build => State.takeBuildFrame
  | .statusReq => State.takeStatusReqFrame
  | .undefined => State.discardFrame

theorem exec_command (c : FrameClass) (dt : Nat) (f : RxFrame) (s : State) :
    exec (c.command dt f) s = event dt (State.receive c f c.hand) s := by
  cases c <;> rfl

/-- A law of the send side: it speaks of the transceiver, the notes, the note in delivery and whether SETUP is
accepted, and a frame handed on, a HORIZON only with SETUP accepted, and a line noted keep it. -/
structure SendLaw (Q : State → Prop) : Prop where
  still : ∀ {s t : State}, Q s → t.xcvr = s.xcvr → t.hz.inDelivery = s.hz.inDelivery →
    t.hz.notes = s.hz.notes → (s.ctl.setup.isSome = true → t.ctl.setup.isSome = true) → Q t
  handFrame : ∀ {s : State} {f : TxFrame}, Q s →
    (f.body = .horizon → s.ctl.setup.isSome = true) → Q (s.handFrame f)
  noteLine : ∀ {s : State} (v : Setup) (p : Int), Q s → Q (s.noteLine v p)

/-- A law of the send side that holds in a state. Rules are chained in the order in which operations run. -/
structure Upheld (Q : State → Prop) (s : State) : Prop where
  law : SendLaw Q
  holds : Q s

namespace Upheld

variable {Q : State → Prop} {s : State}

/-- A change that computes to the same send side. -/
theorem still (h : Upheld Q s) {t : State} (hx : t.xcvr = s.xcvr := by rfl)
    (hd : t.hz.inDelivery = s.hz.inDelivery := by rfl) (hn : t.hz.notes = s.hz.notes := by rfl)
    (hv : s.ctl.setup.isSome = true → t.ctl.setup.isSome = true := by exact id) : Upheld Q t :=
  ⟨h.law, h.law.still h.holds hx hd hn hv⟩

theorem handFrame (h : Upheld Q s) {f : TxFrame}
    (hf : f.body = .horizon → s.ctl.setup.isSome = true) : Upheld Q (s.handFrame f) :=
  ⟨h.law, h.law.handFrame h.holds hf⟩

theorem noteLine (h : Upheld Q s) {v : Setup} {p : Int} : Upheld Q (s.noteLine v p) :=
  ⟨h.law, h.law.noteLine v p h.holds⟩

/-! ### Record unit, billet unit and horizon unit -/

theorem handEntry (h : Upheld Q s) {e : Entry} : Upheld Q (s.handEntry e) := by
  obtain ⟨r, b, m, d, e⟩ := s.handEntry_footprint e
  rw [e]
  exact h.still

theorem closeGap (h : Upheld Q s) {face subject : Nat} {start stop : Int} :
    Upheld Q (s.closeGap face subject start stop) := by
  obtain ⟨r, e⟩ := s.closeGap_footprint face subject start stop
  rw [e]
  exact h.still

theorem evict (h : Upheld Q s) : Upheld Q s.evict := by
  obtain ⟨r, e⟩ := s.evict_footprint
  rw [e]
  exact h.still

theorem decideBillets (h : Upheld Q s) (v : Setup) (bs : List Billet) :
    Upheld Q (Machine.decideBillets v bs s).2 := by
  induction bs generalizing s with
  | nil => exact h
  | cons b rest ih =>
    unfold Machine.decideBillets
    split
    · rename_i tail _ _
      have hframe := h.handFrame
        (f := toAll (s.verdictOf v b tail).test (.verdict (s.verdictOf v b tail))) nofun
      dsimp only
      split
      · exact hframe
      · exact ih hframe
    · exact ih h

theorem verdictDecision (h : Upheld Q s) {v : Setup} : Upheld Q (s.verdictDecision v) := by
  unfold State.verdictDecision
  split
  · exact (h.decideBillets v _).still
  · exact h

theorem takeCut (h : Upheld Q s) {v : Setup} {received : Bool} {number : Nat} {position : Int} :
    Upheld Q (s.takeCut v received number position) := by
  unfold State.takeCut
  split
  · split <;> exact h.still
  · split
    · exact h
    · split
      · exact h.still
      · obtain ⟨r, b, d, e⟩ := s.retire_footprint
        unfold State.newCut
        rw [e]
        dsimp only
        split
        · exact evict h.still
        · exact verdictDecision h.still

theorem recomputeHorizon (h : Upheld Q s) {v : Setup} : Upheld Q (s.recomputeHorizon v) := by
  unfold State.recomputeHorizon
  split
  · obtain ⟨r, b, m, d, e⟩ := State.commitBelow_footprint v s.newHorizon
      { s with hz := { s.hz with horizon := s.newHorizon } }
    rw [e]
    exact verdictDecision h.still
  · exact h

theorem recompute (h : Upheld Q s) : Upheld Q s.recompute := by
  unfold State.recompute
  split
  · exact h
  · rename_i v hv
    have hstep : Upheld Q ({ s with hz := { s.hz with ownClearTo := s.newClearTo v } }.horizonStep v) := by
      unfold State.horizonStep
      split
      · exact handFrame h.still fun _ => by rw [hv]; rfl
      · exact h.still
    dsimp only
    split
    · exact hstep
    · exact hstep.recomputeHorizon

theorem recomputeIfMoved (h : Upheld Q s) {old : State} : Upheld Q (s.recomputeIfMoved old) := by
  unfold State.recomputeIfMoved
  split
  · exact h
  · exact h.recompute

theorem coveringTest (h : Upheld Q s) {v : Setup} : Upheld Q (s.coveringTest v) := by
  obtain ⟨g, r, b, m, d, e⟩ := s.coveringTest_footprint v
  rw [e]
  exact h.still

/-! ### Reference scheduler -/

theorem dueTest (h : Upheld Q s) : Upheld Q s.dueTest := by
  obtain ⟨p, c, e⟩ := s.dueTest_footprint
  rw [e]
  exact h.still

theorem lineBoundary (h : Upheld Q s) {v : Setup} : Upheld Q (s.lineBoundary v) := by
  obtain ⟨p, c, e⟩ := s.lineBoundary_footprint v
  rw [e]
  exact h.still

theorem startAll (h : Upheld Q s) : Upheld Q s.startAll := by
  obtain ⟨p, c, k, e⟩ := s.startAll_footprint
  rw [e]
  exact h.still

theorem truncateByFault (h : Upheld Q s) : Upheld Q s.truncateByFault := by
  obtain ⟨p, c, k, e⟩ := s.truncateByFault_footprint
  rw [e]
  exact h.still

theorem truncateCycle (h : Upheld Q s) {i : Fin 8} {n : Nat} : Upheld Q (s.truncateCycle i n) := by
  obtain ⟨p, e⟩ := s.stopReference_footprint
  unfold State.truncateCycle
  rw [e]
  dsimp only
  split <;> exact h.still

/-! ### Tracer and corrector -/

theorem takeClosed (h : Upheld Q s) (v : Setup) (x : Trace) : Upheld Q (State.takeClosed v s x) := by
  unfold State.takeClosed
  split
  · exact h
  · dsimp only
    split
    · exact h.still
    · exact (handEntry h.still).handFrame nofun

theorem takeAllClosed (h : Upheld Q s) {v : Setup} {closed : List Trace} :
    Upheld Q (s.takeAllClosed v closed) := by
  unfold State.takeAllClosed
  generalize closedOrder closed = xs
  induction xs generalizing s with
  | nil => exact h
  | cons x rest ih => exact ih (h.takeClosed v x)

theorem closeAll (h : Upheld Q s) {v : Setup} {kind : CloseKind} : Upheld Q (s.closeAll v kind) :=
  takeAllClosed h.still

theorem traceLine (h : Upheld Q s) {v : Setup} {line : ProcessedLine} :
    Upheld Q (s.traceLine v line) := by
  have hdrop : ∀ n, Upheld Q (s.dropRuns v line n) := fun n => by
    unfold State.dropRuns
    split
    · exact h
    · exact noteLine h.still
  exact takeAllClosed (hdrop _).still

theorem discardLine (h : Upheld Q s) {v : Setup} {line : ProcessedLine} :
    Upheld Q (s.discardLine v line) := by
  unfold State.discardLine
  split
  · exact h.noteLine
  · exact h

theorem correctLine (h : Upheld Q s) {v : Setup} {line : LineInFlight} {raw : List (BitVec 12)}
    {withheld : SegMask} : Upheld Q (s.correctLine v line raw withheld) := by
  have hcrowd : ∀ crowded, Upheld Q (s.crowd v line.position crowded) := fun crowded => by
    unfold State.crowd
    split
    · exact noteLine h.still
    · exact h
  unfold State.correctLine
  dsimp only
  obtain ⟨k, n, e⟩ := State.completeBuild_footprint _
  rw [e]
  exact (hcrowd _).still

theorem abortBuild (h : Upheld Q s) : Upheld Q s.abortBuild := by
  obtain ⟨k, e⟩ := s.abortBuild_footprint
  rw [e]
  exact h.still

/-! ### Modes -/

theorem enterInspecting (h : Upheld Q s) {v : Setup} : Upheld Q (s.enterInspecting v) :=
  (coveringTest h.still).recompute

theorem referenceDone (h : Upheld Q s) {v : Setup} : Upheld Q (s.referenceDone v) := by
  unfold State.referenceDone
  split
  · exact h.enterInspecting
  · exact recompute h.still

theorem strandEnd (h : Upheld Q s) {v : Setup} : Upheld Q (s.strandEnd v) :=
  (closeAll h.still).abortBuild.startAll.coveringTest.recompute

theorem enterHeadFault (h : Upheld Q s) {v : Setup} : Upheld Q (s.enterHeadFault v) := by
  have hfault : Upheld Q ((s.setFlag .headFault).setMode .headFault) := h.still
  have habandon : Upheld Q (((s.setFlag .headFault).setMode .headFault).abandonNoted v) := by
    unfold State.abandonNoted
    split
    · exact hfault
    · exact noteLine hfault.still
  exact (closeAll habandon.truncateByFault.still).abortBuild.coveringTest

theorem countTimeout (h : Upheld Q s) {v : Setup} : Upheld Q (s.countTimeout v) := by
  unfold State.countTimeout
  dsimp only
  split
  · exact enterHeadFault h.still
  · exact h.still

theorem recover (h : Upheld Q s) : Upheld Q s.recover := (startAll h.still).recompute

/-! ### Commands of the head port -/

theorem takeStale (h : Upheld Q s) : Upheld Q s.takeStale := by
  unfold State.takeStale
  split
  · exact h
  · exact h.still

theorem takeLine (h : Upheld Q s) {line : LineInFlight} {raw : List (BitVec 12)}
    {withheld : SegMask} : Upheld Q (s.takeLine line raw withheld) := by
  have hdrop : Upheld Q s.dropLine.clearTimeouts := h.still
  unfold State.takeLine
  dsimp only
  split
  · exact hdrop
  · split
    · exact hdrop.correctLine.recompute
    · exact hdrop.recompute

theorem takeArrival (h : Upheld Q s) {tag : BitVec 8} {raw : List (BitVec 12)} {withheld : SegMask} :
    Upheld Q (s.takeArrival tag raw withheld) := by
  unfold State.takeArrival
  split
  · exact h.takeLine
  · split
    · exact h.recover
    · exact h.takeStale

theorem takeLineTimeout (h : Upheld Q s) : Upheld Q s.takeLineTimeout := by
  unfold State.takeLineTimeout
  split
  · split
    · exact (noteLine h.still).countTimeout.recompute
    · exact h
  · exact h

theorem referenceFull (h : Upheld Q s) {scope : Scope} : Upheld Q (s.referenceFull scope) := by
  unfold State.referenceFull
  dsimp only
  split
  · exact dueTest h.still
  · split
    · exact h.still
    · exact referenceDone h.still

theorem takeReadoutTag (h : Upheld Q s) {tag : BitVec 8} {raw : List (BitVec 12)} :
    Upheld Q (s.takeReadoutTag tag raw) := by
  unfold State.takeReadoutTag State.takeReadout
  split
  · dsimp only
    split
    · exact referenceFull h.still
    · exact h.still
  · exact h.takeStale

theorem timeOutReadout (h : Upheld Q s) {v : Setup} {r : Reference} : Upheld Q (s.timeOutReadout v r) := by
  have hcount : Upheld Q (s.count .lineTimeout) := h.still
  unfold State.timeOutReadout
  dsimp only
  split <;> split
  · exact hcount.truncateCycle.countTimeout.recompute
  · exact hcount.truncateCycle.countTimeout.dueTest
  · exact (countTimeout hcount.still).recompute
  · exact countTimeout hcount.still

theorem takeReadoutTimeout (h : Upheld Q s) : Upheld Q s.takeReadoutTimeout := by
  unfold State.takeReadoutTimeout
  split
  · split
    · exact h.timeOutReadout
    · exact h
  · exact h

theorem takeProbeTimer (h : Upheld Q s) : Upheld Q s.takeProbeTimer := by
  unfold State.takeProbeTimer
  split
  · exact h
  · split
    · dsimp only
      split <;> exact h.still
    · exact h

theorem takeProbeTimeout (h : Upheld Q s) : Upheld Q s.takeProbeTimeout := by
  unfold State.takeProbeTimeout
  split
  · exact h.still
  · exact h

theorem takeTick (h : Upheld Q s) : Upheld Q s.takeTick := by
  unfold State.takeTick
  split
  · split
    · exact dueTest h.still
    · exact h
  · exact h

theorem takeProcessed (h : Upheld Q s) : Upheld Q s.takeProcessed := by
  unfold State.takeProcessed
  split
  · dsimp only
    split
    · exact (discardLine h.still).recompute
    · exact (traceLine h.still).recompute.lineBoundary
  · exact h

/-! ### Commands of the travel unit -/

theorem lineDue (h : Upheld Q s) {v : Setup} : Upheld Q (s.lineDue v) := by
  unfold State.lineDue
  split
  · dsimp only
    split
    · exact h.still
    · exact noteLine h.still
  · exact h

theorem positionChanged (h : Upheld Q s) : Upheld Q s.positionChanged := by
  unfold State.positionChanged State.raiseHighWater
  split
  · exact h
  · split
    · exact lineDue h.still
    · exact h.lineDue

theorem markMove (h : Upheld Q s) {dir : Direction} {before : Int} : Upheld Q (s.markMove dir before) := by
  obtain ⟨m, d, e⟩ := s.markMove_footprint dir before
  rw [e]
  exact h.still

theorem moveCount (h : Upheld Q s) {dir : Direction} {step : Int} : Upheld Q (s.moveCount dir step) := by
  unfold State.moveCount
  dsimp only
  split
  · exact h
  · refine (markMove ?_).recomputeIfMoved
    split
    · exact h.still
    · exact positionChanged h.still

theorem takePair (h : Upheld Q s) {a b : Bool} : Upheld Q (s.takePair a b) := by
  unfold State.takePair
  dsimp only
  split
  · exact h
  · exact h.still
  · exact moveCount h.still
  · exact moveCount h.still

theorem takeRise (h : Upheld Q s) : Upheld Q s.takeRise := by
  unfold State.takeRise
  split
  · exact h.still
  · dsimp only
    split
    · exact h.still
    · split
      · exact enterInspecting h.still
      · exact h.still

theorem takeFall (h : Upheld Q s) : Upheld Q s.takeFall := by
  unfold State.takeFall
  split
  · exact h
  · split <;> exact h.still

theorem takeDropout (h : Upheld Q s) : Upheld Q s.takeDropout := by
  unfold State.takeDropout
  split
  · dsimp only
    split
    · exact h.still
    · split
      · exact strandEnd h.still
      · exact h.still
  · exact h

theorem takeGate (h : Upheld Q s) {high : Bool} : Upheld Q (s.takeGate high) := by
  unfold State.takeGate
  dsimp only
  split
  · exact h
  · split
    · exact h.still
    · split
      · exact (lineDue h.still).coveringTest.recomputeIfMoved
      · exact h.still

theorem takeCutLevel (h : Upheld Q s) {high : Bool} : Upheld Q (s.takeCutLevel high) := by
  unfold State.takeCutLevel State.takeCandidate
  dsimp only
  split
  · exact h.still
  · split
    · split
      · exact h.still
      · split
        · exact h.still
        · refine (handFrame h.still ?_).takeCut
          exact nofun
    · exact h.still

/-! ### Frames from peers -/

theorem hear (h : Upheld Q s) {sender : Nat} : Upheld Q (s.hear sender) := by
  unfold State.hear
  split
  · exact h
  · exact h.still

theorem liveChanged (h : Upheld Q s) : Upheld Q s.liveChanged := by
  unfold State.liveChanged
  split
  · exact h
  · exact h.recomputeHorizon.verdictDecision

theorem testFace (h : Upheld Q s) {sender face : Nat} : Upheld Q (s.testFace sender face) := by
  unfold State.testFace
  split
  · exact h.still
  · exact h

theorem handLeavingGap (h : Upheld Q s) {p : Peer} : Upheld Q (s.handLeavingGap p) := by
  unfold State.handLeavingGap
  split
  · exact h
  · exact h.handEntry

theorem setPeer (h : Upheld Q s) {p : Peer} : Upheld Q (s.setPeer p) := h.still

theorem reportMissed (h : Upheld Q s) {missed sender : Nat} {a : Option Int} {b : Int} :
    Upheld Q (s.reportMissed missed sender a b) := by
  unfold State.reportMissed
  split
  · exact h
  · exact handEntry h.still

theorem takeCutFrame (h : Upheld Q s) {head : FrameHead} {body : List Byte} :
    Upheld Q (State.takeCutFrame head body s) := by
  unfold State.takeCutFrame State.placeCut
  split
  · exact h
  · split
    · split
      · exact h.hear.still
      · exact h.hear.takeCut
    · exact h

theorem takeFindingFrame (h : Upheld Q s) {head : FrameHead} {body : List Byte} :
    Upheld Q (State.takeFindingFrame head body s) := by
  have hheard : Upheld Q (s.hear head.sender) := h.hear
  unfold State.takeFindingFrame State.takePeerFinding
  split
  · split
    · exact hheard.still
    · split
      · exact hheard.still
      · refine (setPeer ?_).reportMissed.handEntry
        split
        · exact hheard.testFace
        · exact hheard
  · exact h

theorem stepOffset (h : Upheld Q s) {v : Setup} {p : Peer} {offset : Int} :
    Upheld Q (s.stepOffset v p offset) := by
  unfold State.stepOffset
  split
  · exact h.still
  · exact h

theorem stepNote (h : Upheld Q s) {sender : Nat} {offset : Int} {note : Option (Int × Int)} :
    Upheld Q (s.stepNote sender offset note) := by
  unfold State.stepNote
  split
  · exact h
  · exact h.handEntry

theorem stepCovering (h : Upheld Q s) {p : Peer} {covering : Bool} {clearTo : Int} :
    Upheld Q (s.stepCovering p covering clearTo) := by
  unfold State.stepCovering
  split
  · exact h.handEntry
  · exact h.closeGap
  · exact h

theorem fiveSteps (h : Upheld Q s) {v : Setup} {p : Peer} {b : HorizonBody} :
    Upheld Q (s.fiveSteps v p b) := by
  unfold State.fiveSteps
  dsimp only
  split
  · exact h.stepOffset.stepNote.reportMissed.stepCovering.setPeer.recomputeHorizon
  · exact h.stepOffset.stepNote.reportMissed.stepCovering.setPeer.recomputeHorizon.verdictDecision

theorem ensurePeer (h : Upheld Q s) {sender : Nat} : Upheld Q (s.ensurePeer sender) := by
  unfold State.ensurePeer
  split
  · exact h.hear
  · split <;> exact h.still

theorem takeHorizonFrame (h : Upheld Q s) {head : FrameHead} {body : List Byte} :
    Upheld Q (State.takeHorizonFrame head body s) := by
  unfold State.takeHorizonFrame
  split
  · exact h
  · dsimp only
    split
    · split
      · exact h.ensurePeer.fiveSteps
      · exact h.ensurePeer
    · exact h.ensurePeer

theorem takeVerdictFrame (h : Upheld Q s) {head : FrameHead} {body : List Byte} :
    Upheld Q (State.takeVerdictFrame head body s) := by
  unfold State.takeVerdictFrame
  split
  · obtain ⟨b, d, e⟩ := (s.hear head.sender).hearVerdict_footprint (parseVerdict body)
    rw [e]
    exact h.hear.still
  · exact h

theorem takeAnnounce (h : Upheld Q s) {sender face : Nat} : Upheld Q (s.takeAnnounce sender face) := by
  unfold State.takeAnnounce
  split
  · split
    · exact h.still
    · exact h.testFace.still
  · dsimp only
    split
    · exact h.testFace.handLeavingGap.setPeer.liveChanged
    · exact h.testFace.handLeavingGap.setPeer

theorem takeAnnounceFrame (h : Upheld Q s) {head : FrameHead} {body : List Byte} :
    Upheld Q (State.takeAnnounceFrame head body s) := by
  unfold State.takeAnnounceFrame
  split
  · exact h
  · split
    · exact h.hear.takeAnnounce
    · exact h.hear

/-! ### Timers of the horizon unit and of the mode controller -/

theorem takeSilence (h : Upheld Q s) {id : Nat} : Upheld Q (s.takeSilence id) := by
  unfold State.takeSilence State.silence
  split
  · exact h
  · split
    · dsimp only
      split
      · exact h.handLeavingGap.setPeer.liveChanged
      · exact h.handLeavingGap.setPeer
    · exact h

theorem takeHorizonTimer (h : Upheld Q s) : Upheld Q s.takeHorizonTimer := by
  unfold State.takeHorizonTimer
  split
  · rename_i hv
    split
    · exact handFrame h.still fun _ => by rw [hv]; rfl
    · exact h
  · exact h

theorem takeAnnounceTimer (h : Upheld Q s) : Upheld Q s.takeAnnounceTimer := by
  unfold State.takeAnnounceTimer
  split
  · exact h
  · split
    · dsimp only
      split
      · exact h.still
      · exact handFrame h.still nofun
    · exact h

/-! ### Frames from stations -/

theorem takeStatusReqFrame (h : Upheld Q s) {head : FrameHead} {body : List Byte} :
    Upheld Q (State.takeStatusReqFrame head body s) := by
  have hreply : Upheld Q (s.handFrame (s.statusFrame head.sender)) := h.handFrame nofun
  unfold State.takeStatusReqFrame
  split
  · exact h
  · dsimp only
    split
    · exact hreply.still
    · exact hreply

theorem setupHorizon (h : Upheld Q s) {v : Setup} : Upheld Q (s.setupHorizon v) := by
  have hrise : Upheld Q ({ s with hz := { s.hz with ownClearTo := s.newClearTo v } }.recomputeHorizon v) :=
    recomputeHorizon h.still
  unfold State.setupHorizon State.openOwnGap
  exact handEntry hrise.still

theorem acceptSetup (h : Upheld Q s) {v : Setup} : Upheld Q (s.acceptSetup v) := by
  unfold State.acceptSetup
  exact startAll (handFrame (setupHorizon (h.still (hv := fun _ => rfl))) nofun)

/-! ### The hand-off of a qualified frame -/

/-- Whatever its class, a qualified frame keeps the law. -/
theorem hand (h : Upheld Q s) {c : FrameClass} {head : FrameHead} {body : List Byte} :
    Upheld Q (c.hand head body s) := by
  cases c with
  | cut => exact h.takeCutFrame
  | finding => exact h.takeFindingFrame
  | horizon => exact h.takeHorizonFrame
  | verdict => exact h.takeVerdictFrame
  | announce => exact h.takeAnnounceFrame
  | status => exact h
  | setup => exact h.acceptSetup
  | build => exact h.still
  | statusReq => exact h.takeStatusReqFrame
  | undefined => exact h

end Upheld

end Sys2Proof.Machine
end

section
/-! SUPPORT. Send state, queue, taken copy, line state and the note in delivery go on agreeing (O55): what the
commands of the transceiver do to `SendInv`, which is a law of the send side, and so every command. -/

namespace Sys2Proof.Machine

set_option Elab.async false

theorem TxFrame.isHorizon_iff (f : TxFrame) : f.isHorizon = true ↔ f.body = .horizon := by
  unfold TxFrame.isHorizon
  exact beq_iff_eq

/-! ### A frame sent whole (R94) -/

/-- The frame sent whole has left the queue, and its idle gap has completed (R94, R95; log 7). -/
def State.frameLeft (s : State) : State :=
  { s.leaveQueue with xcvr := { s.leaveQueue.xcvr.emptyBuffer with line := .idle } }

theorem State.sentWhole_of_sending {s : State} {f : TxFrame} {rest : List TxFrame}
    (hs : s.xcvr.send = .sending) (hq : s.xcvr.queue = f :: rest) :
    s.sentWhole = s.frameLeft.reportSent f.body (s.xcvr.taken.bind TakenCopy.clearTo) := by
  unfold State.sentWhole
  rw [if_pos hs, hq]
  rfl

/-- A HORIZON sent whole sets the last sent clear-to and the timer, then its note is delivered (R125, R126;
log 11). -/
theorem State.reportSent_horizon {s : State} {v : Setup} (hv : s.ctl.setup = some v)
    (clearTo : Option Int) : s.reportSent .horizon clearTo = State.deliverNote
      { s with hz := { s.hz with
          lastSent := clearTo
          timer := some (s.nodeTime + v.horizonPeriod) } } := by
  unfold State.reportSent State.horizonSent
  dsimp only
  rw [hv]

/-! ### The note list (R123) -/

/-- A range merged into the note list leaves a note in delivery the oldest (R123, R124). -/
theorem mergeRange_head? {notes : List Note} {n : Note} (h : notes.head? = some n) (pitch : Nat)
    (a b : Int) : (mergeRange pitch true notes a b).head? = some n := by
  obtain ⟨rest, rfl⟩ : ∃ rest, notes = n :: rest := by
    cases notes with
    | nil => cases h
    | cons m rest => exact ⟨rest, by injection h with h; rw [h]⟩
  unfold mergeRange
  cases rest with
  | nil => simp [Config.noteLimit]
  | cons m rest =>
    split
    · simp_all
    · split <;> simp

namespace SendInv

variable {s : State}

/-- A change that computes to the same transceiver, notes, note in delivery and presence of a setup. -/
theorem still (h : SendInv s) {t : State} (hx : t.xcvr = s.xcvr := by rfl)
    (hd : t.hz.inDelivery = s.hz.inDelivery := by rfl) (hn : t.hz.notes = s.hz.notes := by rfl)
    (hv : s.ctl.setup.isSome = true → t.ctl.setup.isSome = true := by exact id) : SendInv t := by
  obtain ⟨hempty, htaken, hline, hgap, hending, hhor, hdel⟩ := h
  unfold SendInv
  rw [hx, hd, hn]
  exact ⟨hempty, htaken, hline, hgap, hending, hv ∘ hhor, hdel⟩

/-- A change that leaves no note in delivery may change the notes. -/
theorem undelivered (h : SendInv s) {t : State} (hd : t.hz.inDelivery = none)
    (hx : t.xcvr = s.xcvr := by rfl) (hv : t.ctl.setup.isSome = s.ctl.setup.isSome := by rfl) :
    SendInv t := by
  obtain ⟨hempty, htaken, hline, hgap, hending, hhor, -⟩ := h
  unfold SendInv
  rw [hx, hd, hv]
  exact ⟨hempty, htaken, hline, hgap, hending, hhor, nofun⟩

theorem send_empty (h : SendInv s) (hq : s.xcvr.queue = []) : s.xcvr.send = .empty := by
  obtain ⟨hempty, -⟩ := h
  exact hempty.mpr hq

/-- A try goes on only past the first gap after a reset (R95). -/
theorem firstGap_of_sending (h : SendInv s) (hs : s.xcvr.send = .sending) : s.xcvr.firstGap = false := by
  obtain ⟨-, -, hline, -⟩ := h
  exact (hline hs).2

/-- Whoever queued a HORIZON had accepted SETUP (R125). -/
theorem setup_of_horizon (h : SendInv s) {f : TxFrame} (hq : f ∈ s.xcvr.queue) (hf : f.body = .horizon) :
    ∃ v, s.ctl.setup = some v := by
  obtain ⟨-, -, -, -, -, hhor, -⟩ := h
  exact Option.isSome_iff_exists.mp (hhor (List.any_eq_true.mpr ⟨f, hq, f.isHorizon_iff.mpr hf⟩))

/-- While a frame other than a HORIZON is the oldest, no note is in delivery (R124). -/
theorem no_delivery_of_head (h : SendInv s)
    (hf : ∀ f ∈ s.xcvr.queue.head?, f.body ≠ .horizon) : s.hz.inDelivery = none := by
  obtain ⟨-, -, -, -, -, -, hdel⟩ := h
  refine Option.eq_none_iff_forall_ne_some.mpr fun n hn => ?_
  obtain ⟨f, hq, hfh⟩ := (Option.any_eq_true ..).mp (hdel n hn).2.2
  exact hf f hq (f.isHorizon_iff.mp hfh)

/-- Outside a try no note is in delivery (R124). -/
theorem no_delivery (h : SendInv s) (hs : s.xcvr.send ≠ .sending) : s.hz.inDelivery = none := by
  obtain ⟨-, -, -, -, -, -, hdel⟩ := h
  exact Option.eq_none_iff_forall_ne_some.mpr fun n hn => hs (hdel n hn).1

/-! ### Transmit queue and note list -/

/-- A frame handed on is a HORIZON only with SETUP accepted (R88, R125). -/
theorem handFrame (h : SendInv s) {f : TxFrame}
    (hf : f.body = .horizon → s.ctl.setup.isSome = true) : SendInv (s.handFrame f) := by
  unfold State.handFrame
  split
  · exact h
  · split
    · exact h.still
    · obtain ⟨hempty, htaken, hline, hgap, hending, hhor, hdel⟩ := h
      have hsending : (if s.xcvr.send = .empty then .waiting else s.xcvr.send) = .sending
          ↔ s.xcvr.send = .sending := by
        split
        · rename_i he
          simp [he]
        · exact Iff.rfl
      refine ⟨?_, htaken.trans hsending.symm, hline ∘ hsending.mp, hgap, hsending.mpr ∘ hending,
        fun ha => ?_, fun n hn => ?_⟩
      · by_cases he : s.xcvr.send = .empty <;> simp [he]
      · rw [List.any_append, Bool.or_eq_true] at ha
        obtain ha | ha := ha
        · exact hhor ha
        · exact hf (f.isHorizon_iff.mp (by simpa using ha))
      · obtain ⟨hs, hnote, hhead⟩ := hdel n hn
        obtain ⟨g, hg, hgh⟩ := (Option.any_eq_true ..).mp hhead
        exact ⟨hsending.mpr hs, hnote, by simp [List.head?_append, hg, hgh]⟩

theorem noteLine (h : SendInv s) {v : Setup} {p : Int} : SendInv (s.noteLine v p) := by
  obtain ⟨hempty, htaken, hline, hgap, hending, hhor, hdel⟩ := h
  refine ⟨hempty, htaken, hline, hgap, hending, hhor, fun n hn => ?_⟩
  obtain ⟨hs, hnote, hhead⟩ := hdel n hn
  refine ⟨hs, ?_, hhead⟩
  have hbusy : s.hz.inDelivery.isSome = true := by
    rw [show s.hz.inDelivery = some n from hn]
    rfl
  rw [State.noteLine_notes, hbusy]
  exact mergeRange_head? hnote _ _ _

/-- The invariant is a law of the send side. -/
theorem upheld (h : SendInv s) : Upheld SendInv s where
  law := {
    still := fun h hx hd hn hv => h.still hx hd hn hv
    handFrame := fun h hf => h.handFrame hf
    noteLine := fun _ _ h => h.noteLine }
  holds := h

/-! ### The sending side -/

/-- The oldest frame is taken: with a HORIZON the oldest note goes into delivery (R89, R124). -/
theorem beginTry (h : SendInv s) (hs : s.xcvr.send ≠ .sending) {f : TxFrame} {rest : List TxFrame}
    (hq : s.xcvr.queue = f :: rest) : SendInv (s.beginTry f) := by
  have hnone := h.no_delivery hs
  obtain ⟨-, -, -, -, -, hhor, -⟩ := h
  refine ⟨by simp [State.beginTry, hq], by simp [State.beginTry], fun _ => ⟨rfl, rfl⟩, nofun,
    fun _ => rfl, hhor, fun n hn => ?_⟩
  simp only [State.beginTry, hnone] at hn
  split at hn
  · rename_i hf
    exact ⟨rfl, hn, by simp [State.beginTry, hq, hf]⟩
  · cases hn

theorem tryToSend (h : SendInv s) : SendInv s.tryToSend := by
  unfold State.tryToSend
  split
  · rename_i hs
    split
    · rename_i hq
      have hempty := h.send_empty hq
      rw [hs] at hempty
      cases hempty
    · rename_i hq
      exact h.beginTry (by rw [hs]; decide) hq
  · exact h

/-- A try ends with its frame still queued (R91, R92). -/
theorem setAside (h : SendInv s) (hs : s.xcvr.send = .sending) : SendInv s.setAside := by
  obtain ⟨hempty, -, -, hgap, -, hhor, -⟩ := h
  have hq : s.xcvr.queue ≠ [] := fun e => by simp [hempty.mpr e] at hs
  exact ⟨by simpa [State.setAside] using hq, by simp [State.setAside], nofun, hgap, nofun, hhor,
    fun _ hn => by cases hn⟩

theorem loseArbitration (h : SendInv s) : SendInv s.loseArbitration := by
  unfold State.loseArbitration
  split
  · exact h.setAside ‹_›
  · exact h

theorem leaveQueue_send (s : State) : s.leaveQueue.xcvr.send ≠ .sending := by
  unfold State.leaveQueue
  dsimp only
  split <;> decide

/-- The oldest frame leaves the queue, and with it a note in delivery (R93, R94). -/
theorem leaveQueue (h : SendInv s) :
    SendInv { s.leaveQueue with hz := { s.hz with inDelivery := none } } := by
  obtain ⟨-, -, -, hgap, -, hhor, -⟩ := h
  have hwaits := leaveQueue_send s
  refine ⟨by simp [State.leaveQueue], by simpa [State.leaveQueue] using hwaits,
    fun hs => absurd hs hwaits, hgap, nofun, fun ha => hhor ?_, nofun⟩
  rw [State.leaveQueue_queue, List.any_eq_true] at ha
  obtain ⟨f, hf, hfh⟩ := ha
  exact List.any_eq_true.mpr ⟨f, List.mem_of_mem_tail hf, hfh⟩

theorem reportDrop (h : SendInv s) {body : TxBody} : SendInv (s.reportDrop body) := by
  cases body with
  | finding f n => exact h.upheld.recompute.holds
  | _ => exact h.still

theorem collide (h : SendInv s) : SendInv s.collide := by
  unfold State.collide
  split
  · rename_i hs
    have haside : SendInv (s.setAside.count .txCollision) := (h.setAside hs).still
    dsimp only
    split
    · exact haside
    · split
      · exact haside.leaveQueue.still
      · exact reportDrop haside.leaveQueue.still
  · exact h

/-- The line turns IDLE outside a try, the first gap being past (R95). -/
theorem idleLine (h : SendInv s) (hs : s.xcvr.send ≠ .sending) {x : Transceiver}
    (hx : x = { s.xcvr.emptyBuffer with line := .idle, firstGap := false } := by rfl) :
    SendInv { s with xcvr := x } := by
  subst hx
  obtain ⟨hempty, htaken, -, -, hending, hhor, hdel⟩ := h
  exact ⟨hempty, htaken, fun h => absurd h hs, nofun, hending, hhor, hdel⟩

/-- The state once a frame sent whole has left queue and line, no note being in delivery (R94, R95). -/
theorem frameLeft (h : SendInv s) (hs : s.xcvr.send = .sending) {t : State}
    (hd : t.hz.inDelivery = none) (hx : t.xcvr = s.frameLeft.xcvr := by rfl)
    (hv : t.ctl.setup.isSome = s.ctl.setup.isSome := by rfl) : SendInv t := by
  have hgap := h.firstGap_of_sending hs
  have hidle := h.leaveQueue.idleLine (leaveQueue_send s) (x := s.frameLeft.xcvr) (by
    rw [← hgap]
    rfl)
  exact hidle.undelivered hd hx hv

theorem reportSent (h : SendInv s) (hs : s.xcvr.send = .sending) {f : TxFrame} {rest : List TxFrame}
    (hq : s.xcvr.queue = f :: rest) (clearTo : Option Int) :
    SendInv (s.frameLeft.reportSent f.body clearTo) := by
  have hnone : f.body ≠ .horizon → s.frameLeft.hz.inDelivery = none := fun hf =>
    h.no_delivery_of_head fun g hg => by
      rw [hq] at hg
      cases hg
      exact hf
  cases hb : f.body with
  | finding g n => exact (h.frameLeft hs (hnone (by rw [hb]; nofun))).upheld.recompute.holds
  | horizon =>
    obtain ⟨v, hv⟩ := h.setup_of_horizon (by rw [hq]; exact List.mem_cons_self) hb
    rw [State.reportSent_horizon (s := s.frameLeft) hv]
    unfold State.deliverNote
    split
    · exact h.frameLeft hs ‹_›
    · obtain ⟨r, b, m, d, e⟩ := State.handEntry_footprint _ _
      rw [e]
      exact (h.frameLeft hs rfl).upheld.recompute.holds
  | _ => exact h.frameLeft hs (hnone (by rw [hb]; nofun))

theorem sentWhole (h : SendInv s) : SendInv s.sentWhole := by
  by_cases hs : s.xcvr.send = .sending
  · cases hq : s.xcvr.queue with
    | nil =>
      have hempty := h.send_empty hq
      rw [hs] at hempty
      cases hempty
    | cons f rest =>
      rw [State.sentWhole_of_sending hs hq]
      exact h.reportSent hs hq _
  · unfold State.sentWhole
    rw [if_neg hs]
    exact h

theorem frameBegins (h : SendInv s) : SendInv s.frameBegins := by
  unfold State.frameBegins
  split
  · obtain ⟨hempty, htaken, hline, hgap, hending, hhor, hdel⟩ := h
    exact ⟨hempty, htaken, fun hs => ⟨rfl, (hline hs).2⟩, fun _ => rfl, hending, hhor, hdel⟩
  · exact h

theorem firstIdle (h : SendInv s) : SendInv s.firstIdle := by
  unfold State.firstIdle
  split
  · rename_i hg
    exact h.idleLine fun hs => by simp [h.firstGap_of_sending hs] at hg
  · exact h

/-! ### Reception -/

/-- A frame's end leaves the line BUSY during a try taken first (R95, R106; log 38). -/
theorem endFrame (h : SendInv s) (hg : s.xcvr.firstGap = false) (f : RxFrame) :
    SendInv (s.load f).endFrame := by
  obtain ⟨hempty, htaken, -, -, -, hhor, hdel⟩ := h
  refine ⟨hempty, htaken, fun hs => ⟨if_pos hs, hg⟩, fun hg' => ?_, nofun, hhor, hdel⟩
  rw [show (s.load f).endFrame.xcvr.firstGap = s.xcvr.firstGap from rfl, hg] at hg'
  cases hg'

theorem receive (h : SendInv s) {c : FrameClass} {f : RxFrame} : SendInv (s.receive c f c.hand) := by
  unfold State.receive
  split
  · exact h
  · split
    · exact h.firstIdle
    · rename_i hg
      have hend := h.endFrame (by simpa using hg) f
      split
      · exact hend.still
      · exact hend.still
      · exact hend
      · exact hend.upheld.hand.holds

/-! ### Resets (R199) -/

theorem beginReset (h : SendInv s) {cause : ResetCause} : SendInv (s.beginReset cause) := by
  obtain ⟨hempty, -, -, hgap, -, hhor, -⟩ := h
  have hwaits : (s.beginReset cause).xcvr.send ≠ .sending := by
    unfold State.beginReset
    dsimp only
    split
    · decide
    · assumption
  refine ⟨?_, by simpa [State.beginReset] using hwaits, fun hs => absurd hs hwaits, hgap, nofun, hhor,
    fun _ hn => by cases hn⟩
  by_cases hs : s.xcvr.send = .sending <;> simp_all [State.beginReset]

theorem endReset (s : State) (p : Straps) (cause : ResetCause) : SendInv (s.endReset p cause) := by
  have hblocks : SendInv (s.resetBlocks p cause) :=
    ⟨by simp [State.resetBlocks], by simp [State.resetBlocks, State.reset], nofun, fun _ => rfl, nofun,
      nofun, nofun⟩
  unfold State.endReset
  dsimp only
  split
  · exact hblocks
  · exact hblocks.handFrame nofun

/-! ### One command -/

theorem event (h : SendInv s) {f : State → State} (hf : ∀ u, SendInv u → SendInv (f u)) {dt : Nat}
    {t : State} (e : Machine.event dt f s = .next t) : SendInv t := by
  obtain rfl | ⟨-, rfl⟩ := event_cases e
  · exact h.still
  · exact hf _ h.still

theorem inputEvent (h : SendInv s) {set : Pins → Pins} {f : State → State}
    (hf : ∀ u, SendInv u → SendInv (f u)) {dt : Nat} {t : State}
    (e : Machine.inputEvent dt set f s = .next t) : SendInv t := by
  obtain rfl | ⟨-, rfl⟩ := inputEvent_cases e
  · exact h.still
  · exact hf _ h.still

theorem exec (h : SendInv s) {c : Instr} {t : State} (e : Machine.exec c s = .next t) : SendInv t := by
  have frame : ∀ (cl : FrameClass) {dt f}, Machine.exec (cl.command dt f) s = .next t → SendInv t :=
    fun cl _ _ e => h.event (fun _ hu => hu.receive) (exec_command cl _ _ s ▸ e)
  cases c with
  | encoderTransition dt a b =>
    rw [exec_encoderTransition] at e
    exact h.inputEvent (fun _ hu => hu.upheld.takePair.holds) e
  | strandRise dt =>
    rw [exec_strandRise] at e
    refine h.inputEvent (fun _ hu => ?_) e
    split
    · exact hu
    · exact hu.upheld.takeRise.holds
  | strandFall dt =>
    rw [exec_strandFall] at e
    refine h.inputEvent (fun _ hu => ?_) e
    split
    · exact hu.upheld.takeFall.holds
    · exact hu
  | dropoutTimerExpiry dt => exact h.event (fun _ hu => hu.upheld.takeDropout.holds) e
  | gateChange dt high =>
    rw [exec_gateChange] at e
    exact h.inputEvent (fun _ hu => hu.upheld.takeGate.holds) e
  | cutInputEdge dt high =>
    rw [exec_cutInputEdge] at e
    exact h.inputEvent (fun _ hu => hu.upheld.takeCutLevel.holds) e
  | lineArrival dt tag raw w => exact h.event (fun _ hu => hu.upheld.takeArrival.holds) e
  | lineTimeout dt => exact h.event (fun _ hu => hu.upheld.takeLineTimeout.holds) e
  | referenceReadout dt tag raw => exact h.event (fun _ hu => hu.upheld.takeReadoutTag.holds) e
  | readoutTimeout dt => exact h.event (fun _ hu => hu.upheld.takeReadoutTimeout.holds) e
  | probeTimerExpiry dt => exact h.event (fun _ hu => hu.upheld.takeProbeTimer.holds) e
  | probeTimeout dt => exact h.event (fun _ hu => hu.upheld.takeProbeTimeout.holds) e
  | probeArrival dt tag raw w => exact h.event (fun _ hu => hu.upheld.takeArrival.holds) e
  | tick dt => exact h.event (fun _ hu => hu.upheld.takeTick.holds) e
  | processedLine dt => exact h.event (fun _ hu => hu.upheld.takeProcessed.holds) e
  | transmitTry dt => exact h.event (fun _ hu => hu.tryToSend) e
  | arbitrationLost dt => exact h.event (fun _ hu => hu.loseArbitration) e
  | collision dt => exact h.event (fun _ hu => hu.collide) e
  | frameSentWhole dt => exact h.event (fun _ hu => hu.sentWhole) e
  | cutFrame dt f => exact frame .cut e
  | findingFrame dt f => exact frame .finding e
  | horizonFrame dt f => exact frame .horizon e
  | verdictFrame dt f => exact frame .verdict e
  | announceFrame dt f => exact frame .announce e
  | statusFrame dt f => exact frame .status e
  | setupFrame dt f => exact frame .setup e
  | buildFrame dt f => exact frame .build e
  | statusReqFrame dt f => exact frame .statusReq e
  | silenceTimerExpiry dt p => exact h.event (fun _ hu => hu.upheld.takeSilence.holds) e
  | horizonTimerExpiry dt => exact h.event (fun _ hu => hu.upheld.takeHorizonTimer.holds) e
  | announceTimerExpiry dt => exact h.event (fun _ hu => hu.upheld.takeAnnounceTimer.holds) e
  | powerOnReset dt =>
    injection e with e
    exact e ▸ beginReset h.still
  | pinReset dt =>
    injection e with e
    exact e ▸ beginReset h.still
  | resetEnd dt p =>
    obtain ⟨-, rfl⟩ | ⟨cause, -, rfl⟩ := resetEnd_cases e
    · exact h.still
    · exact endReset s p cause
  | newFrameBegins dt => exact h.event (fun _ hu => hu.frameBegins) e
  | idleGapAfterReset dt => exact h.event (fun _ hu => hu.firstIdle) e
  | frameOfUndefinedClass dt f => exact frame .undefined e

end SendInv

/-- Settles O55: an empty queue idles, and every command keeps the send side, since frames are handed on
through one operation and each end of a try leaves no copy, no note in delivery and no frame awaited. -/
theorem theSendStateIsKept : Obligations.TheSendStateIsKept := fun _ _ hs h =>
  step_of_exec (P := fun s t => SendInv s → SendInv t) (fun _ => id) (fun e hs => hs.exec e)
    (fun _ k hs => k hs.still) h hs

end Sys2Proof.Machine
end

section
/-! SUPPORT. The transceiver's own commands outside a reset: frames handed to the queue and the timers that hand
them (O46), the line (O35), a try begun (O30), a try failed (O33), a frame sent whole (O34). -/

namespace Sys2Proof.Machine

variable {s : State}

/-! ### The commands of the transceiver outside a reset -/

section
variable (hr : s.resetting = none)
include hr

theorem exec_transmitTry_running (dt : Nat) :
    exec (.transmitTry dt) s = .next (s.begin dt).tryToSend := event_running hr dt _

theorem exec_arbitrationLost_running (dt : Nat) :
    exec (.arbitrationLost dt) s = .next (s.begin dt).loseArbitration := event_running hr dt _

theorem exec_collision_running (dt : Nat) :
    exec (.collision dt) s = .next (s.begin dt).collide := event_running hr dt _

theorem exec_frameSentWhole_running (dt : Nat) :
    exec (.frameSentWhole dt) s = .next (s.begin dt).sentWhole := event_running hr dt _

theorem exec_newFrameBegins_running (dt : Nat) :
    exec (.newFrameBegins dt) s = .next (s.begin dt).frameBegins := event_running hr dt _

theorem exec_idleGapAfterReset_running (dt : Nat) :
    exec (.idleGapAfterReset dt) s = .next (s.begin dt).firstIdle := event_running hr dt _

theorem exec_horizonTimerExpiry_running (dt : Nat) :
    exec (.horizonTimerExpiry dt) s = .next (s.begin dt).takeHorizonTimer := event_running hr dt _

theorem exec_announceTimerExpiry_running (dt : Nat) :
    exec (.announceTimerExpiry dt) s = .next (s.begin dt).takeAnnounceTimer := event_running hr dt _

end

/-! ### The line (R95) -/

theorem frameBegins_of_idle (h : s.xcvr.line = .idle) :
    s.frameBegins = { s with xcvr := { s.xcvr.emptyBuffer with line := .busy } } := if_pos h

theorem frameBegins_of_busy (h : s.xcvr.line = .busy) : s.frameBegins = s :=
  if_neg (by rw [h]; decide)

theorem firstIdle_of_firstGap (h : s.xcvr.firstGap = true) :
    s.firstIdle = { s with xcvr := { s.xcvr.emptyBuffer with line := .idle, firstGap := false } } :=
  if_pos h

theorem firstIdle_of_past (h : s.xcvr.firstGap = false) : s.firstIdle = s :=
  if_neg (by rw [h]; decide)

/-- Settles O35. -/
theorem theLineTurnsBusyAndIdle : Obligations.TheLineTurnsBusyAndIdle := by
  intro dt s hr
  rw [exec_newFrameBegins_running hr, exec_idleGapAfterReset_running hr]
  refine ⟨fun h => ?_, fun h => ?_, fun h => ?_, fun h => ?_⟩
  · rw [frameBegins_of_idle (s := s.begin dt) h]
    rfl
  · rw [frameBegins_of_busy (s := s.begin dt) h]
  · rw [firstIdle_of_firstGap (s := s.begin dt) h]
    rfl
  · rw [firstIdle_of_past (s := s.begin dt) h]

/-! ### Frames handed on (R88) -/

theorem handFrame_second_horizon {f : TxFrame} (hf : f.body = .horizon)
    (hq : ∃ g ∈ s.xcvr.queue, g.body = .horizon) : s.handFrame f = s := by
  obtain ⟨g, hg, hb⟩ := hq
  have hany : s.xcvr.queue.any TxFrame.isHorizon = true :=
    List.any_eq_true.mpr ⟨g, hg, g.isHorizon_iff.mpr hb⟩
  unfold State.handFrame
  rw [f.isHorizon_iff.mpr hf, hany]
  rfl

theorem handFrame_other {f : TxFrame} (h : f.body ≠ .horizon ∨ ∀ g ∈ s.xcvr.queue, g.body ≠ .horizon) :
    s.handFrame f = if 16 ≤ s.xcvr.queue.length then s.count .txOverrun else { s with
      xcvr := { s.xcvr with
        queue := s.xcvr.queue ++ [f]
        send := if s.xcvr.send = .empty then .waiting else s.xcvr.send } } := by
  have hnot : ¬(f.isHorizon && s.xcvr.queue.any TxFrame.isHorizon) = true := by
    rw [Bool.and_eq_true, f.isHorizon_iff, List.any_eq_true]
    rintro ⟨hf, g, hg, hgh⟩
    obtain h | h := h
    · exact h hf
    · exact h g hg (g.isHorizon_iff.mp hgh)
  unfold State.handFrame State.queueFull
  rw [if_neg hnot]
  exact if_congr decide_eq_true_iff rfl rfl

/-! ### The timers that hand frames (R125, R190) -/

theorem takeHorizonTimer_of_running {due : Nat} {v : Setup} (ht : s.hz.timer = some due)
    (hv : s.ctl.setup = some v) :
    s.takeHorizonTimer = if due ≤ s.nodeTime then
      { s with hz := { s.hz with timer := some (due + v.horizonPeriod) } }.handFrame
        (s.toStrand false .horizon) else s := by
  unfold State.takeHorizonTimer
  rw [ht, hv]
  rfl

theorem takeAnnounceTimer_of_running {due : Nat} (ht : s.ctl.announceTimer = some due) :
    s.takeAnnounceTimer = if due ≤ s.nodeTime then
      let t := { s with ctl := { s.ctl with announceTimer := some (due + 1000) } }
      if s.xcvr.queue.any TxFrame.isAnnounce then t else t.handFrame s.announce else s := by
  unfold State.takeAnnounceTimer
  rw [ht]
  rfl

/-- Settles O46: each timer by its due time, the announce timer by the frames that wait, and a frame handed on by
the HORIZON that is queued and the room there is. -/
theorem periodicFramesAreHanded : Obligations.PeriodicFramesAreHanded := by
  intro dt due s hr
  rw [exec_horizonTimerExpiry_running hr, exec_announceTimerExpiry_running hr]
  refine ⟨fun v ht hv => ?_, fun ht => ?_, fun q hq f => ?_⟩
  · rw [takeHorizonTimer_of_running (s := s.begin dt) ht hv]
    refine ⟨fun hd => ?_, fun hd => ?_⟩
    · rw [if_neg (not_le.mpr hd)]
    · rw [if_pos hd]
      rfl
  · rw [takeAnnounceTimer_of_running (s := s.begin dt) ht]
    refine ⟨fun hd => ?_, fun hd hw => ?_, fun hd hw => ?_⟩
    · rw [if_neg (not_le.mpr hd)]
    · have hany : (s.begin dt).xcvr.queue.any TxFrame.isAnnounce = true := List.any_eq_true.mpr hw
      rw [if_pos hd, hany]
      rfl
    · have hany : (s.begin dt).xcvr.queue.any TxFrame.isAnnounce = false :=
        List.any_eq_false.mpr fun f hf => by simp [hw f hf]
      rw [if_pos hd, hany]
      rfl
  · subst hq
    refine ⟨handFrame_second_horizon, fun h => ⟨fun hroom => ?_, fun hfull => ?_⟩⟩
    · rw [handFrame_other h, if_neg (not_le.mpr hroom)]
    · rw [handFrame_other h, if_pos hfull]

/-! ### A try that fails (R91 to R93) -/

theorem loseArbitration_of_sending (h : s.xcvr.send = .sending) : s.loseArbitration = s.setAside :=
  if_pos h

theorem leaveQueue_eq {f : TxFrame} {rest : List TxFrame} (hq : s.xcvr.queue = f :: rest) :
    s.leaveQueue = { s with xcvr := { s.xcvr with
      queue := rest, collisions := 0, taken := none, ending := false
      send := if rest = [] then .empty else .waiting } } := by
  unfold State.leaveQueue
  rw [hq]
  cases rest <;> rfl

theorem collide_of_first (hs : s.xcvr.send = .sending) (hc : s.xcvr.collisions < 2) :
    s.collide = { s.setAside.count .txCollision with xcvr := { s.setAside.xcvr with
      collisions := s.xcvr.collisions + 1 } } := by
  unfold State.collide
  rw [if_pos hs]
  exact if_pos hc

theorem collide_of_third (hs : s.xcvr.send = .sending) (hc : 2 ≤ s.xcvr.collisions) {f : TxFrame}
    {rest : List TxFrame} (hq : s.xcvr.queue = f :: rest) :
    s.collide = ((s.setAside.count .txCollision).leaveQueue.count .txDrop).reportDrop f.body := by
  have hqueue : (s.setAside.count .txCollision).xcvr.queue = f :: rest := hq
  have hcount : ¬(s.setAside.count .txCollision).xcvr.collisions < 2 := not_lt.mpr hc
  unfold State.collide
  rw [if_pos hs]
  dsimp only
  rw [if_neg hcount, hqueue]

/-- Settles O33: a lost arbitration sets the frame aside, a collision by its count, and the dropped frame's
departure by its body. -/
theorem failedTriesKeepOrDropTheFrame : Obligations.FailedTriesKeepOrDropTheFrame := by
  intro dt s u f rest hr hs hq hu
  subst hu
  rw [exec_arbitrationLost_running hr, exec_collision_running hr]
  refine ⟨?_, fun hc => ?_, fun hc => ?_⟩
  · rw [loseArbitration_of_sending (s := s.begin dt) hs]
    rfl
  · rw [collide_of_first (s := s.begin dt) hs hc]
    rfl
  · rw [collide_of_third (s := s.begin dt) hs hc hq,
      leaveQueue_eq (s := (s.begin dt).setAside.count .txCollision) hq]
    cases f.body <;> rfl

/-! ### A frame sent whole (R94) -/

theorem frameLeft_eq {f : TxFrame} {rest : List TxFrame} (hq : s.xcvr.queue = f :: rest) :
    s.frameLeft = { s with xcvr := { s.xcvr with
      queue := rest, collisions := 0, taken := none, ending := false, line := .idle
      send := if rest = [] then .empty else .waiting
      buffer := [], beyond := 0, broken := false } } := by
  unfold State.frameLeft
  rw [leaveQueue_eq hq]
  rfl

theorem reportSent_of_silent {body : TxBody} (hh : body ≠ .horizon) (hf : ∀ g n, body ≠ .finding g n)
    (clearTo : Option Int) : s.reportSent body clearTo = s := by
  cases body with
  | finding g n => exact absurd rfl (hf g n)
  | horizon => exact absurd rfl hh
  | _ => rfl

theorem deliverNote_of_none (h : s.hz.inDelivery = none) : s.deliverNote = s := by
  unfold State.deliverNote
  rw [h]

theorem deliverNote_of_some {n : Note} (h : s.hz.inDelivery = some n) :
    s.deliverNote = State.recompute
      { s.handEntry (.loss s.ownId n.start n.stop) with
        hz := { (s.handEntry (.loss s.ownId n.start n.stop)).hz with
          notes := (s.handEntry (.loss s.ownId n.start n.stop)).hz.notes.tail, inDelivery := none } } := by
  unfold State.deliverNote
  rw [h]

/-- A note in delivery leaves the list; all else is reports and a recomputation (R124). -/
theorem deliverNote_reported : ∃ p, s.deliverNote = { s with hz := { s.hz with
    notes := if s.hz.inDelivery = none then s.hz.notes else s.hz.notes.tail
    inDelivery := none } }.reported p := by
  cases hn : s.hz.inDelivery with
  | none =>
    refine ⟨⟨s.hz.ownClearTo, s.hz.horizon, s.record, s.billet, s.marker, s.xcvr.queue, s.xcvr.send,
      s.diag⟩, ?_⟩
    rw [deliverNote_of_none hn, if_pos rfl, ← hn]
    rfl
  | some n =>
    obtain ⟨r, b, m, d, e⟩ := s.handEntry_footprint (.loss s.ownId n.start n.stop)
    obtain ⟨p, e'⟩ := State.recompute_reported { s with
      hz := { s.hz with notes := s.hz.notes.tail, inDelivery := none }
      record := r, billet := b, marker := m, diag := d }
    rw [deliverNote_of_some hn, e, if_neg nofun]
    exact ⟨p, e'⟩

/-- Settles O34: the report by the frame's body; what a FINDING and a delivered note bring about is a
recomputation, that is, reports and the two values it recomputes. -/
theorem framesSentWholeAreReported : Obligations.FramesSentWholeAreReported := by
  intro dt s u f rest copy hr hs hq hcopy hu
  have hleft : (s.begin dt).frameLeft = u := by
    rw [hu]
    exact frameLeft_eq (s := s.begin dt) hq
  have hexec : exec (.frameSentWhole dt) s = .next (u.reportSent f.body copy.clearTo) := by
    rw [exec_frameSentWhole_running hr, State.sentWhole_of_sending (s := s.begin dt) hs hq, hleft,
      State.begin_xcvr, hcopy]
    rfl
  have hsetup : u.ctl.setup = s.ctl.setup := by rw [hu]; rfl
  have hhz : u.hz = s.hz := by rw [hu]; rfl
  rw [hexec]
  refine ⟨fun hh hf => ?_, fun g n hb => ?_, fun v hb hv => ?_⟩
  · rw [reportSent_of_silent hh hf]
  · rw [hb]
    refine ⟨_, rfl, ?_, fun v hv => ?_⟩
    · obtain ⟨p, e⟩ := u.recompute_reported
      rw [show u.reportSent (.finding g n) copy.clearTo = u.recompute from rfl, e, ← hhz]
      rfl
    · rw [← hhz]
      exact u.recompute_ownClearTo (hsetup.trans hv)
  · rw [hb, State.reportSent_horizon (hsetup.trans hv)]
    subst hu
    refine ⟨_, rfl, ?_, fun hn => ?_, fun n w hn hw => ?_⟩
    · obtain ⟨p, e⟩ := deliverNote_reported (s := _)
      rw [e]
      rfl
    · rw [deliverNote_of_none (by exact hn)]
      exact ⟨rfl, rfl⟩
    · subst hw
      exact deliverNote_of_some (by exact hn)

/-! ### A try begun (R89, R90) -/

theorem tryToSend_takes {f : TxFrame} {rest : List TxFrame} (hs : s.xcvr.send = .waiting)
    (hq : s.xcvr.queue = f :: rest) : s.tryToSend = s.beginTry f := by
  unfold State.tryToSend
  rw [if_pos hs, hq]

theorem tryToSend_of_no_frame (hs : s.xcvr.send = .waiting) (hq : s.xcvr.queue = []) :
    s.tryToSend = { s with xcvr := { s.xcvr with send := .empty } } := by
  unfold State.tryToSend
  rw [if_pos hs, hq]

theorem tryToSend_of_not_waiting (hs : s.xcvr.send ≠ .waiting) : s.tryToSend = s := if_neg hs

/-- On a BUSY line past the first gap the frame that ends at the gap is heard during the try (R106; log 38). -/
theorem hearing_beginTry (hr : s.resetting = none) (f : TxFrame) :
    Hearing (s.beginTry f) ↔ s.xcvr.line = .busy ∧ s.xcvr.firstGap = false := by
  have hending : (s.beginTry f).xcvr.ending = true ↔ s.xcvr.line = .busy ∧ s.xcvr.firstGap = false := by
    simp [State.beginTry]
  exact ⟨fun ⟨_, _, h⟩ => hending.mp (h rfl), fun h => ⟨hr, rfl, fun _ => hending.mpr h⟩⟩

/-! ### Frames that end during a try (R95, R106) -/

/-- The try goes on with this copy, on a BUSY line, and no frame's end is awaited. -/
def TryGoesOn (copy : Option TakenCopy) (s : State) : Prop :=
  s.xcvr.taken = copy ∧ s.xcvr.send = .sending ∧ s.xcvr.line = .busy ∧ s.xcvr.ending = false

theorem TryGoesOn.upheld {copy : Option TakenCopy} (h : TryGoesOn copy s) :
    Upheld (TryGoesOn copy) s where
  law := {
    still := fun h hx _ _ _ => by
      unfold TryGoesOn
      rwa [hx]
    handFrame := fun {u f} h _ => by
      obtain ⟨hcopy, hsend, hline, hending⟩ := h
      unfold State.handFrame
      split
      · exact ⟨hcopy, hsend, hline, hending⟩
      · split
        · exact ⟨hcopy, hsend, hline, hending⟩
        · refine ⟨hcopy, ?_, hline, hending⟩
          simp [hsend]
    noteLine := fun _ _ h => h }
  holds := h

theorem TryGoesOn.not_hearing {copy : Option TakenCopy} (h : TryGoesOn copy s) : ¬Hearing s := by
  obtain ⟨-, hsend, -, hending⟩ := h
  rintro ⟨-, -, hheard⟩
  rw [hheard hsend] at hending
  cases hending

/-- Whatever frame ends during a try, the try goes on, and no second end is heard (R106; log 38). -/
theorem receive_tryGoesOn (hs : s.xcvr.send = .sending) (hl : s.xcvr.line = .busy)
    (hg : s.xcvr.firstGap = false) (c : FrameClass) (f : RxFrame) :
    TryGoesOn s.xcvr.taken (s.receive c f c.hand) := by
  have hend : TryGoesOn s.xcvr.taken (s.load f).endFrame := ⟨rfl, hs, if_pos hs, rfl⟩
  unfold State.receive
  rw [hg]
  split
  · rename_i hdeaf
    exact ⟨rfl, hs, hl, hdeaf.2⟩
  · rw [if_neg nofun]
    split
    · exact hend
    · exact hend
    · exact hend
    · exact hend.upheld.hand.holds

/-- The first gap after a reset leaves taken copy and send state. -/
theorem receive_of_firstGap (hg : s.xcvr.firstGap = true) (c : FrameClass) (f : RxFrame) :
    (s.receive c f c.hand).xcvr.taken = s.xcvr.taken ∧ (s.receive c f c.hand).xcvr.send = s.xcvr.send := by
  unfold State.receive
  split
  · exact ⟨rfl, rfl⟩
  · rw [firstIdle_of_firstGap hg]
    exact ⟨rfl, rfl⟩

/-- Settles O30: the command by send state and queue; a frame that ends during the try keeps what makes the try
go on, a law of the send side, so that its hand-off keeps it too. -/
theorem triesTakeTheOldestFrame : Obligations.TriesTakeTheOldestFrame := by
  refine ⟨fun dt s hr => ?_, fun c dt s t f hs hl h => ?_⟩
  · rw [exec_transmitTry_running hr]
    refine ⟨fun f rest hs hq => ?_, fun hs hq => ?_, fun hs => ?_⟩
    · rw [tryToSend_takes (s := s.begin dt) hs hq]
      refine ⟨_, rfl, ?_, hearing_beginTry (s := s.begin dt) hr f⟩
      unfold State.beginTry
      simp only [f.isHorizon_iff]
      rfl
    · rw [tryToSend_of_no_frame (s := s.begin dt) hs hq]
      rfl
    · rw [tryToSend_of_not_waiting (s := s.begin dt) hs]
  · rw [exec_command] at h
    cases hr : s.resetting with
    | some cause =>
      rw [event_resetting (by rw [hr]; rfl)] at h
      cases h
      refine ⟨rfl, hs, fun _ => ⟨hl, ?_⟩⟩
      rintro ⟨hnone, -⟩
      rw [State.begin_resetting, hr] at hnone
      cases hnone
    | none =>
      rw [event_running hr] at h
      cases h
      cases hg : s.xcvr.firstGap with
      | true =>
        obtain ⟨htaken, hsend⟩ := receive_of_firstGap (s := s.begin dt) hg c f
        exact ⟨htaken, hsend.trans hs, nofun⟩
      | false =>
        have hgo := receive_tryGoesOn (s := s.begin dt) hs hl hg c f
        obtain ⟨htaken, hsend, hline, -⟩ := id hgo
        exact ⟨htaken, hsend, fun _ => ⟨hline, hgo.not_hearing⟩⟩

end Sys2Proof.Machine
end

section
/-! SUPPORT. The qualification of a received frame (O36), and the frames that a mode discards (O37). -/

namespace Sys2Proof.Machine

variable {s : State}

/-! ### What is read of a frame's characters (R87, R95, R97, R98) -/

/-- The body that a frame's head announces (R87). -/
def bodyOf (f : RxFrame) : List Byte := (f.chars.drop 3).take (parseHead f.chars).length

/-- A frame that passes LENGTH (R97). -/
abbrev LengthHolds (f : RxFrame) : Prop :=
  f.broken = false ∧ 5 ≤ f.chars.length ∧ f.chars.length = (parseHead f.chars).length + 5

/-- A frame that passes CHECK (R98). -/
abbrev CheckHolds (f : RxFrame) : Prop :=
  f.chars.drop (3 + (parseHead f.chars).length)
    = bytesBE 2 (crc (f.chars.take 3 ++ bodyOf f)).toNat

theorem parseHead_length_lt (chars : List Byte) : (parseHead chars).length < 64 :=
  Nat.mod_lt _ (by decide)

/-- The head stands in the first three characters, within the receive buffer. -/
theorem parseHead_take (chars : List Byte) : parseHead (chars.take 68) = parseHead chars := by
  have hfield : ∀ i < 3, fieldAt (chars.take 68) i 1 = fieldAt chars i 1 := fun i hi => by
    unfold fieldAt
    rw [List.drop_take, List.take_take, min_eq_left (by omega)]
  unfold parseHead
  rw [hfield 0 (by decide), hfield 1 (by decide), hfield 2 (by decide)]

theorem load_lengthOk (s : State) (f : RxFrame) : (s.load f).xcvr.lengthOk = true ↔ LengthHolds f := by
  have hlen : (f.chars.take 68).length + (f.chars.length - 68) = f.chars.length := by
    rw [List.length_take]
    omega
  have hok : (s.load f).xcvr.lengthOk
      = (decide (5 ≤ (f.chars.take 68).length + (f.chars.length - 68)) && !f.broken
        && (f.chars.take 68).length + (f.chars.length - 68)
          == 3 + (parseHead (f.chars.take 68)).length + 2) := rfl
  rw [hok, hlen, parseHead_take]
  simp only [Bool.and_eq_true, decide_eq_true_eq, Bool.not_eq_true', beq_iff_eq]
  constructor
  · rintro ⟨⟨h5, hb⟩, he⟩
    exact ⟨hb, h5, by omega⟩
  · rintro ⟨hb, h5, he⟩
    exact ⟨⟨h5, hb⟩, by omega⟩

/-- A frame of right length fits the receive buffer (R95). -/
theorem load_buffer {f : RxFrame} (h : LengthHolds f) (s : State) : (s.load f).xcvr.buffer = f.chars := by
  obtain ⟨-, -, he⟩ := h
  have := parseHead_length_lt f.chars
  exact List.take_of_length_le (show f.chars.length ≤ 68 by omega)

theorem load_body {f : RxFrame} (h : LengthHolds f) (s : State) : (s.load f).xcvr.body = bodyOf f := by
  unfold Transceiver.body
  rw [load_buffer h]
  rfl

theorem load_checkOk {f : RxFrame} (h : LengthHolds f) (s : State) :
    (s.load f).xcvr.checkOk = true ↔ CheckHolds f := by
  unfold Transceiver.checkOk
  rw [load_body h, load_buffer h, beq_iff_eq]
  exact eq_comm

/-! ### The checks in their order (R96 to R103) -/

/-- A head addressed to others (R100). -/
abbrev AddressedElsewhere (s : State) (h : FrameHead) : Prop :=
  h.address = .individual ∧ s.ctl.nodeId ≠ some h.target
    ∨ h.address = .strandGroup ∧ h.target + 1 ≠ s.ctl.strand

/-- A class that the state of the node refuses (R102). -/
abbrev Untimely (s : State) (c : FrameClass) : Prop :=
  c = .setup ∧ s.ctl.mode ≠ .unconfigured
    ∨ c = .build ∧ (s.ctl.mode ≠ .inspecting ∨ s.corr.build = .busy)

theorem addressed_eq_false (s : State) (h : FrameHead) : s.addressed h = false ↔ AddressedElsewhere s h := by
  unfold State.addressed AddressedElsewhere
  cases h.address <;> simp

theorem stateOk_eq_false (s : State) (c : FrameClass) : s.stateOk c = false ↔ Untimely s c := by
  cases c with
  | build => simp [State.stateOk, Untimely, imp_iff_not_or]
  | _ => simp [State.stateOk, Untimely]

/-- The first check that fails decides. -/
theorem qualify_load (s : State) (c : FrameClass) (f : RxFrame) :
    (s.load f).qualify c =
      if ¬LengthHolds f then .failed .length .length
      else if ¬CheckHolds f then .failed .check .check
      else if s.ctl.nodeId = some (parseHead f.chars).sender then .ownSender
      else if AddressedElsewhere s (parseHead f.chars) then .notAddressed
      else if formOk c (parseHead f.chars) (bodyOf f) = false then .failed .form .form
      else if Untimely s c then .failed .state .state
      else .passed (parseHead f.chars) (bodyOf f) := by
  have not_true : ∀ {b : Bool} {p : Prop}, (b = false ↔ p) → ((!b) = true ↔ p) := fun h =>
    (Iff.of_eq (Bool.not_eq_true' _)).trans h
  have not_holds : ∀ {b : Bool} {p : Prop}, (b = true ↔ p) → ((!b) = true ↔ ¬p) := fun h =>
    not_true (by rw [← h, Bool.not_eq_true])
  unfold State.qualify
  by_cases hl : LengthHolds f
  · rw [load_body hl, load_buffer hl]
    exact if_congr (not_holds (load_lengthOk s f)) rfl <|
      if_congr (not_holds (load_checkOk hl s)) rfl <| if_congr beq_iff_eq rfl <|
      if_congr (not_true (addressed_eq_false _ _)) rfl <| if_congr (not_true Iff.rfl) rfl <|
      if_congr (not_true (stateOk_eq_false _ c)) rfl rfl
  · rw [if_pos hl]
    exact if_pos (not_holds (load_lengthOk s f) |>.mpr hl)

/-! ### The command that ends a frame -/

/-- The end of a frame that the node hears, by what the qualification finds. -/
theorem exec_command_hearing (hear : Hearing s) (c : FrameClass) (dt : Nat) (f : RxFrame) :
    exec (c.command dt f) s = .next (match (s.load f).qualify c with
      | .failed flag counter => (s.frameOver dt).linkFailure flag counter
      | .ownSender => (s.frameOver dt).setFlag .idClash
      | .notAddressed => s.frameOver dt
      | .passed head body => c.hand head body (s.frameOver dt)) := by
  rw [exec_command, event_running hear.1, receive_hearing hear]
  rfl

theorem exec_command_passed {c : FrameClass} {f : RxFrame} {h : FrameHead} {body : List Byte}
    (hp : Passes s c f h body) (dt : Nat) :
    exec (c.command dt f) s = .next (c.hand h body (s.frameOver dt)) := by
  obtain ⟨hear, hq⟩ := hp
  rw [exec_command_hearing hear, hq]

/-- No class but the nine is allowed an address (R101). -/
theorem formOk_undefined (h : FrameHead) (body : List Byte) : formOk .undefined h body = false := by
  simp [formOk, FrameClass.allows]

theorem not_passes_undefined (f : RxFrame) (h : FrameHead) (body : List Byte) :
    ¬Passes s .undefined f h body := by
  rintro ⟨-, hq⟩
  obtain ⟨hform, -⟩ := State.qualify_passed hq
  rw [formOk_undefined] at hform
  cases hform

/-- Settles O36: the node hears the frame's end, so what the command does is what the first failing check
says. -/
theorem framesAreQualifiedInOrder : Obligations.FramesAreQualifiedInOrder := by
  intro c dt s f h body long checked hear hh hbody hlong hchecked
  subst hh
  obtain rfl : body = bodyOf f := hbody
  have hlong : long ↔ LengthHolds f := hlong
  have hchecked : checked ↔ CheckHolds f := hchecked
  rw [hlong, hchecked, exec_command_hearing hear]
  unfold Passes
  rw [qualify_load]
  refine ⟨fun hl => ?_, fun hl hc => ?_, fun hl hc hid => ?_, fun hl hc hid ha => ?_,
    fun hl hc hid ha => ⟨fun hf => ?_, fun hf => ⟨fun hs => ?_, fun hs => ⟨hear, ?_⟩⟩⟩,
    not_passes_undefined f _ _⟩
  · rw [if_pos hl]
  · rw [if_neg (not_not.mpr hl), if_pos hc]
  · rw [if_neg (not_not.mpr hl), if_neg (not_not.mpr hc), if_pos hid]
  · rw [if_neg (not_not.mpr hl), if_neg (not_not.mpr hc), if_neg hid, if_pos ha]
  · rw [if_neg (not_not.mpr hl), if_neg (not_not.mpr hc), if_neg hid, if_neg ha, if_pos hf]
  · rw [if_neg (not_not.mpr hl), if_neg (not_not.mpr hc), if_neg hid, if_neg ha,
      if_neg (by rw [hf]; decide), if_pos hs]
  · rw [if_neg (not_not.mpr hl), if_neg (not_not.mpr hc), if_neg hid, if_neg ha,
      if_neg (by rw [hf]; decide), if_neg hs]

/-! ### Frames that a mode discards (R104) -/

theorem takeCutFrame_of_not_configured (hm : s.ctl.mode.configured = false) (h : FrameHead)
    (body : List Byte) : State.takeCutFrame h body s = s := by
  unfold State.takeCutFrame
  rw [hm]
  cases s.ctl.setup <;> rfl

theorem takeFindingFrame_of_not_configured (hm : s.ctl.mode.configured = false) (h : FrameHead)
    (body : List Byte) : State.takeFindingFrame h body s = s := if_neg (by rw [hm]; decide)

theorem takeVerdictFrame_of_not_configured (hm : s.ctl.mode.configured = false) (h : FrameHead)
    (body : List Byte) : State.takeVerdictFrame h body s = s := if_neg (by rw [hm]; decide)

theorem takeHorizonFrame_of_unstrapped (hm : s.ctl.mode = .unstrapped) (h : FrameHead)
    (body : List Byte) : State.takeHorizonFrame h body s = s := if_pos hm

theorem takeAnnounceFrame_of_unstrapped (hm : s.ctl.mode = .unstrapped) (h : FrameHead)
    (body : List Byte) : State.takeAnnounceFrame h body s = s := if_pos hm

/-- Settles O37: the hand-off of each class tests the mode first. -/
theorem modesDiscardFrames : Obligations.ModesDiscardFrames := by
  intro dt c s f h body hp hd
  rw [exec_command_passed hp]
  congr 1
  obtain rfl | ⟨hc, hm⟩ | ⟨hc, hm⟩ := hd
  · rfl
  · have hconf : (s.frameOver dt).ctl.mode.configured = false := by
      obtain hm | hm := hm <;> exact congrArg Mode.configured hm
    obtain rfl | rfl | rfl := hc
    · exact takeCutFrame_of_not_configured hconf h body
    · exact takeFindingFrame_of_not_configured hconf h body
    · exact takeVerdictFrame_of_not_configured hconf h body
  · obtain rfl | rfl := hc
    · exact takeHorizonFrame_of_unstrapped (s := s.frameOver dt) hm h body
    · exact takeAnnounceFrame_of_unstrapped (s := s.frameOver dt) hm h body

end Sys2Proof.Machine
end

section
/-! SUPPORT. Bytes and fields (R204), and what a taken copy says of its frame (O31). -/

namespace Sys2Proof.Machine

/-! ### Numbers in bytes (R204) -/

theorem byteOf_toNat (n : Nat) : (byteOf n).toNat = n % 256 := BitVec.toNat_ofNat n 8

theorem natBE_append_one (bs : List Byte) (b : Byte) : natBE (bs ++ [b]) = natBE bs * 256 + b.toNat := by
  unfold natBE
  rw [List.foldl_append]
  rfl

/-- Bytes spell the number they were taken from, as far as it has places. -/
theorem natBE_bytesBE (n v : Nat) : natBE (bytesBE n v) = v % 256 ^ n := by
  induction n generalizing v with
  | zero => rw [pow_zero, Nat.mod_one]; rfl
  | succ n ih =>
    rw [bytesBE, natBE_append_one, ih, byteOf_toNat, pow_succ']
    have := Nat.mod_mul (x := v) (a := 256) (b := 256 ^ n)
    omega

/-- A field between what stands before and behind it. -/
theorem fieldAt_append {pre field post : List Byte} {i n : Nat} (hi : pre.length = i)
    (hn : field.length = n) : fieldAt (pre ++ (field ++ post)) i n = natBE field := by
  subst hi hn
  unfold fieldAt
  rw [List.drop_left, List.take_left]

theorem signed32_bits32 {v : Int} (hlo : -(2 ^ 31) ≤ v) (hhi : v < 2 ^ 31) : signed32 (bits32 v) = v := by
  unfold signed32 bits32
  split <;> omega

/-- A position comes back from its four bytes (R204). -/
theorem positionAt_append {pre post : List Byte} {i : Nat} {v : Int} (hi : pre.length = i)
    (hlo : -(2 ^ 31) ≤ v) (hhi : v < 2 ^ 31) :
    positionAt (pre ++ (positionBytes v ++ post)) i = v := by
  have hbits : bits32 v < 256 ^ 4 := by
    unfold bits32
    omega
  unfold positionAt positionBytes
  rw [fieldAt_append hi (length_bytesBE 4 _), natBE_bytesBE, Nat.mod_eq_of_lt hbits,
    signed32_bits32 hlo hhi]

/-! ### Bits (R204) -/

theorem bitValue_cases (b : Bool) (i : Nat) : bitValue b i = 0 ∨ bitValue b i = 2 ^ i := by
  cases b
  · exact .inl rfl
  · exact .inr rfl

theorem bitValue_eq (b : Bool) (i : Nat) : bitValue b i = 2 ^ i * b.toNat := by
  cases b <;> simp [bitValue]

/-- A bit comes back from between what stands above and below it. -/
theorem bitAt_between (b : Bool) (above i : Nat) {below : Nat} (h : below < 2 ^ i) :
    bitAt (above * 2 ^ (i + 1) + bitValue b i + below) i = b := by
  have hpos : 0 < 2 ^ i := Nat.two_pow_pos i
  have hdiv : (above * 2 ^ (i + 1) + bitValue b i + below) / 2 ^ i = above * 2 + b.toNat := by
    have hsum : above * 2 ^ (i + 1) + bitValue b i + below
        = below + 2 ^ i * (above * 2 + b.toNat) := by
      rw [bitValue_eq, pow_succ]
      ring
    rw [hsum, Nat.add_mul_div_left _ _ hpos, Nat.div_eq_of_lt h, Nat.zero_add]
  unfold bitAt
  rw [hdiv]
  cases b <;> simp

/-! ### Heads (R87, R204) -/

theorem classCode_lt (body : TxBody) : body.classCode < 16 := by
  cases body <;> simp [TxBody.classCode]

theorem addressCode_lt (a : AddressMode) : a.code < 4 := by cases a <;> decide

theorem addressModeOf_of_mod {n : Nat} {a : AddressMode} (h : n % 4 = a.code) : addressModeOf n = a := by
  unfold addressModeOf
  rw [h]
  cases a <;> rfl

theorem parseHead_of_bytes (b0 b1 b2 : Byte) : parseHead [b0, b1, b2] = {
    sender := b0.toNat % 16 * 2 + b1.toNat / 128
    fault := bitAt b1.toNat 6
    address := addressModeOf (b1.toNat / 16)
    target := b1.toNat % 16 * 2 + b2.toNat / 128
    test := bitAt b2.toNat 6
    length := b2.toNat % 64 } := by
  simp [parseHead, fieldAt, natBE]

/-- A receiver reads from a head what went into it. -/
theorem parseHead_headBytes (classCode : Nat) {sender target length : Nat} (fault test : Bool)
    (address : AddressMode) (hs : sender < 32) (ht : target < 32) (hl : length < 64) :
    parseHead (headBytes classCode sender fault address target test length)
      = { sender := sender, fault := fault, address := address, target := target, test := test
          length := length } := by
  have hfault := bitValue_cases fault 6
  have htest := bitValue_cases test 6
  have haddr := addressCode_lt address
  have hb1 : sender % 2 * 128 + bitValue fault 6 + address.code * 16 + target / 2 < 256 := by omega
  have hb2 : target % 2 * 128 + bitValue test 6 + length < 256 := by omega
  have hfaultBit := bitAt_between fault (sender % 2) 6 (below := address.code * 16 + target / 2) (by omega)
  have htestBit := bitAt_between test (target % 2) 6 (below := length) hl
  unfold headBytes
  rw [parseHead_of_bytes, byteOf_toNat, byteOf_toNat, byteOf_toNat, Nat.mod_eq_of_lt hb1,
    Nat.mod_eq_of_lt hb2, FrameHead.mk.injEq]
  refine ⟨by omega, ?_, addressModeOf_of_mod (by omega), by omega, htestBit, by omega⟩
  rw [Nat.add_assoc _ (address.code * 16)]
  exact hfaultBit

theorem headBytes_class {classCode sender : Nat} (hc : classCode < 16) (hs : sender < 32) (fault : Bool)
    (address : AddressMode) (target : Nat) (test : Bool) (length : Nat) :
    ((headBytes classCode sender fault address target test length).head?.map fun b => b.toNat / 16)
      = some classCode := by
  have hb0 : classCode * 16 + sender / 2 < 256 := by omega
  simp only [headBytes, List.head?_cons, Option.map_some, byteOf_toNat, Nat.mod_eq_of_lt hb0]
  congr 1
  omega

/-! ### HORIZON bodies (R126, R205) -/

/-- What stands in a HORIZON body behind position, clear-to and status byte. -/
def State.horizonTail (s : State) : List Byte :=
  s.staleSet :: (bytesBE 2 s.lastFinding.2 ++ noteBytes s.hz.notes)

theorem horizonBytes_eq (s : State) : s.horizonBytes = positionBytes s.travel.position
    ++ (positionBytes s.hz.ownClearTo ++ ([byteOf s.horizonStatus] ++ s.horizonTail)) := by
  simp [State.horizonBytes, State.horizonTail]

theorem horizonStatus_covering (s : State) :
    bitAt (byteOf s.horizonStatus).toNat 4 = s.hz.ownGap.isNone := by
  have h3 := bitValue_cases (s.flag .headFault) 3
  have h2 := bitValue_cases (s.corr.build == .busy) 2
  have h1 := bitValue_cases s.lastFinding.1 1
  have h0 := bitValue_cases (!s.hz.notes.isEmpty) 0
  have h4 := bitValue_cases s.hz.ownGap.isNone 4
  have hmode : s.ctl.mode.code < 6 := by cases s.ctl.mode <;> decide
  have hbit := bitAt_between s.hz.ownGap.isNone s.ctl.mode.code 4
    (below := bitValue (s.flag .headFault) 3 + bitValue (s.corr.build == .busy) 2
      + bitValue s.lastFinding.1 1 + bitValue (!s.hz.notes.isEmpty) 0) (by omega)
  rw [byteOf_toNat, Nat.mod_eq_of_lt (by unfold State.horizonStatus; omega), ← hbit]
  unfold State.horizonStatus
  congr 1
  omega

theorem length_positionBytes (v : Int) : (positionBytes v).length = 4 := length_bytesBE 4 _

/-- Settles O31: the head by its bits, the check by its two bytes, the HORIZON body field by field. -/
theorem takenCopiesSayTheirFrame : Obligations.TakenCopiesSayTheirFrame := by
  intro s f c hid htarget hlen hc
  subst hc
  refine ⟨rfl, rfl, headBytes_class (classCode_lt _) hid _ _ _ _ _,
    parseHead_headBytes _ _ _ _ hid htarget hlen, ?_, length_bytesBE 2 _, fun hf => ⟨?_, ?_⟩⟩
  · exact (natBE_bytesBE 2 _).trans (Nat.mod_eq_of_lt (BitVec.isLt _))
  · exact if_pos (f.isHorizon_iff.mpr hf)
  · intro hplo hphi hclo hchi
    have hbody : (s.takeCopy f).body = s.horizonBytes := by
      unfold State.takeCopy State.bodyBytes
      rw [hf]
    rw [hbody, horizonBytes_eq]
    refine ⟨positionAt_append (pre := []) rfl hplo hphi,
      positionAt_append (length_positionBytes _) hclo hchi, ?_⟩
    have hstatus : fieldAt (positionBytes s.travel.position ++ (positionBytes s.hz.ownClearTo
        ++ ([byteOf s.horizonStatus] ++ s.horizonTail))) 8 1 = (byteOf s.horizonStatus).toNat := by
      rw [← List.append_assoc]
      refine (fieldAt_append ?_ rfl).trans (Nat.zero_add _)
      rw [List.length_append, length_positionBytes, length_positionBytes]
    unfold parseHorizon
    dsimp only
    rw [hstatus, horizonStatus_covering]

end Sys2Proof.Machine
end

section
/-! SUPPORT. The verdict of a billet: the entries within it, the union of a face's GAP stretches as a number of
positions, coverage, and the decision (O48). -/

namespace Sys2Proof.Machine

/-! ### Which entries lie within a billet (R163) -/

theorem mem_findingsOf {entries : List Entry} {f : Finding} :
    f ∈ findingsOf entries ↔ Entry.finding f ∈ entries := by
  unfold findingsOf
  rw [List.mem_filterMap]
  constructor
  · rintro ⟨e, he, hf⟩
    cases e <;> cases hf
    exact he
  · exact fun h => ⟨_, h, rfl⟩

theorem anyLoss_iff {entries : List Entry} :
    anyLoss entries = true ↔ ∃ origin start stop, Entry.loss origin start stop ∈ entries := by
  unfold anyLoss
  rw [List.any_eq_true]
  constructor
  · rintro ⟨e, he, hl⟩
    cases e <;> cases hl
    exact ⟨_, _, _, he⟩
  · rintro ⟨origin, start, stop, h⟩
    exact ⟨_, h, rfl⟩

theorem mem_gapsOf {face : Nat} {head tail : Int} {entries : List Entry} {p : Int × Int} :
    p ∈ gapsOf face head tail entries ↔ ∃ subject start stop,
      Entry.gap face subject start stop ∈ entries ∧ (max start head, min (stop.getD tail) tail) = p := by
  unfold gapsOf
  rw [List.mem_filterMap]
  constructor
  · rintro ⟨e, he, hp⟩
    cases e with
    | gap f subject start stop =>
      dsimp only at hp
      split at hp
      · rename_i hf
        subst hf
        exact ⟨subject, start, stop, he, Option.some.inj hp⟩
      · cases hp
    | _ => cases hp
  · rintro ⟨subject, start, stop, h, hp⟩
    exact ⟨_, h, by simp [hp]⟩

/-! ### The union of stretches (R165) -/

/-- The positions of stretches at or above `start`. -/
def coveredFrom (start : Int) (stretches : List (Int × Int)) : Set Int :=
  { q | start ≤ q ∧ ∃ p ∈ stretches, p.1 ≤ q ∧ q < p.2 }

/-- With the stretches in the order of their starts, the first takes its positions from `start` on, the others
those behind it. -/
theorem coveredFrom_cons {a b : Int} {rest : List (Int × Int)} (h : ∀ p ∈ rest, a ≤ p.1) (start : Int) :
    coveredFrom start ((a, b) :: rest) = Set.Ico (max a start) b ∪ coveredFrom (max start b) rest := by
  ext q
  simp only [coveredFrom, Set.mem_ofPred_eq, Set.mem_union, Set.mem_Ico, List.mem_cons, max_le_iff]
  constructor
  · rintro ⟨hq, p, rfl | hp, hlo, hhi⟩
    · exact .inl ⟨⟨hlo, hq⟩, hhi⟩
    · by_cases hb : q < b
      · exact .inl ⟨⟨(h p hp).trans hlo, hq⟩, hb⟩
      · exact .inr ⟨⟨hq, not_lt.mp hb⟩, p, hp, hlo, hhi⟩
  · rintro (⟨⟨hlo, hq⟩, hhi⟩ | ⟨⟨hq, -⟩, p, hp, hlo, hhi⟩)
    · exact ⟨hq, (a, b), .inl rfl, hlo, hhi⟩
    · exact ⟨hq, p, .inr hp, hlo, hhi⟩

theorem disjoint_coveredFrom (a b start : Int) (rest : List (Int × Int)) :
    Disjoint (Set.Ico (max a start) b) (coveredFrom (max start b) rest) := by
  rw [Set.disjoint_left]
  rintro q ⟨-, hhi⟩ ⟨hlo, -⟩
  exact absurd hhi (not_lt.mpr ((le_max_right _ _).trans hlo))

theorem ncard_Ico (a b : Int) : ((Set.Ico a b).ncard : Int) = max 0 (b - a) := by
  rw [← Finset.coe_Ico, Set.ncard_coe_finset, Int.card_Ico, Int.toNat_eq_max, max_comm]

/-- The union length is the number of positions in the union (R165). -/
theorem ncard_coveredFrom {stretches : List (Int × Int)}
    (h : stretches.Pairwise fun p q => p.1 ≤ q.1) (start : Int) :
    (coveredFrom start stretches).Finite
      ∧ ((coveredFrom start stretches).ncard : Int) = unionLength start stretches := by
  induction stretches generalizing start with
  | nil => simp [coveredFrom, unionLength]
  | cons p rest ih =>
    obtain ⟨a, b⟩ := p
    obtain ⟨hfirst, hrest⟩ := List.pairwise_cons.mp h
    obtain ⟨hfin, hcard⟩ := ih hrest (max start b)
    rw [coveredFrom_cons hfirst]
    refine ⟨(Set.finite_Ico _ _).union hfin, ?_⟩
    rw [Set.ncard_union_eq (disjoint_coveredFrom a b start rest) (Set.finite_Ico _ _) hfin, Nat.cast_add,
      ncard_Ico, hcard]
    rfl

/-! ### The gap length of a face (R165) -/

section
variable {face : Nat} {head tail : Int} {inside : List Entry}

/-- The record's order lists a face's stretches by their starts (R137). -/
theorem pairwise_gapsOf (h : InOrder inside) :
    (gapsOf face head tail inside).Pairwise fun p q => p.1 ≤ q.1 := by
  unfold gapsOf
  rw [List.pairwise_filterMap]
  refine h.imp fun {a b} hab p hp q hq => ?_
  have hstart := Entry.start_le_of_notAfter hab
  cases a with
  | gap f subject start stop =>
    cases b with
    | gap g subject' start' stop' =>
      dsimp only at hp hq
      split at hp
      · split at hq
        · cases hp
          cases hq
          exact max_le_max hstart le_rfl
        · cases hq
      · cases hp
    | _ => cases hq
  | _ => cases hp

end

/-- The positions of the billet in a GAP of the face (R165). -/
def gapPositions (face : Nat) (head tail : Int) (inside : List Entry) : Set Int :=
  { q | head ≤ q ∧ q < tail ∧ ∃ subject start stop,
    Entry.gap face subject start stop ∈ inside ∧ start ≤ q ∧ ∀ y ∈ stop, q < y }

theorem gapPositions_subset (face : Nat) (head tail : Int) (inside : List Entry) :
    gapPositions face head tail inside ⊆ Set.Ico head tail := by
  rintro q ⟨hq, htail, -⟩
  exact ⟨hq, htail⟩

/-- They are those of the face's stretches, cut at head and tail. -/
theorem coveredFrom_gapsOf (face : Nat) (head tail : Int) (inside : List Entry) :
    coveredFrom head (gapsOf face head tail inside) = gapPositions face head tail inside := by
  ext q
  simp only [coveredFrom, gapPositions, Set.mem_ofPred_eq, mem_gapsOf]
  constructor
  · rintro ⟨hq, p, ⟨subject, start, stop, hg, rfl⟩, hlo, hhi⟩
    obtain ⟨hstop, htail⟩ := lt_min_iff.mp hhi
    refine ⟨hq, htail, subject, start, stop, hg, (max_le_iff.mp hlo).1, fun y hy => ?_⟩
    rw [show stop = some y from hy] at hstop
    exact hstop
  · rintro ⟨hq, htail, subject, start, stop, hg, hlo, hhi⟩
    refine ⟨hq, _, ⟨subject, start, stop, hg, rfl⟩, max_le hlo hq, lt_min ?_ htail⟩
    cases stop with
    | none => exact htail
    | some y => exact hhi y rfl

theorem faceHeld_iff (s : State) (face : Nat) :
    s.faceHeld face = true ↔ s.ctl.face = face ∨ ∃ p ∈ s.hz.peers, p.face = some face := by
  simp [State.faceHeld]

section
variable {s : State} {head tail : Int}

/-- The gap length of a face that a station holds is the number of positions of the billet in its GAPs. -/
theorem gapLength_of_held (hr : InOrder s.record.entries) {face : Nat} (hf : s.faceHeld face = true)
    (head tail : Int) : s.gapLength head tail face
      = (gapPositions face head tail (s.record.entries.filter (Entry.liesWithin head tail))).ncard := by
  have hsorted := pairwise_gapsOf (face := face) (head := head) (tail := tail)
    (hr.filter (Entry.liesWithin head tail))
  obtain ⟨-, hcard⟩ := ncard_coveredFrom hsorted head
  unfold State.gapLength
  rw [if_pos hf, ← hcard, coveredFrom_gapsOf]

theorem gapLength_of_not_held {face : Nat} (hf : s.faceHeld face = false) (head tail : Int) :
    s.gapLength head tail face = tail - head := by
  unfold State.gapLength
  rw [hf]
  rfl

/-- A face has no more positions in a GAP than the billet has. -/
theorem gapLength_bounds (hr : InOrder s.record.entries) (h : head < tail) (face : Nat) :
    0 ≤ s.gapLength head tail face ∧ s.gapLength head tail face ≤ tail - head := by
  cases hf : s.faceHeld face with
  | false =>
    rw [gapLength_of_not_held hf]
    omega
  | true =>
    rw [gapLength_of_held hr hf]
    have hle := Set.ncard_le_ncard (gapPositions_subset face head tail
      (s.record.entries.filter (Entry.liesWithin head tail))) (Set.finite_Ico _ _)
    have hcard := ncard_Ico head tail
    rw [max_eq_right (by omega)] at hcard
    omega

/-! ### Coverage (R165) -/

theorem sum_bounds {l : List Int} {n : Int} (h : ∀ x ∈ l, 0 ≤ x ∧ x ≤ n) :
    0 ≤ l.sum ∧ l.sum ≤ l.length * n :=
  ⟨List.sum_nonneg fun x hx => (h x hx).1, by
    simpa using List.sum_le_card_nsmul l n fun x hx => (h x hx).2⟩

/-- The coverage is the quotient of R165, and at most the whole. -/
theorem coverage_eq (hr : InOrder s.record.entries) (h : head < tail) {v : Setup}
    (hfaces : facesOf v.faceMask ≠ []) {gap : Nat → Int}
    (hgap : ∀ face, gap face = s.gapLength head tail face) :
    (s.coverage v head tail : Int) = 1000 * ((facesOf v.faceMask).length * (tail - head)
        - ((facesOf v.faceMask).map gap).sum) / ((facesOf v.faceMask).length * (tail - head))
      ∧ s.coverage v head tail ≤ 1000 := by
  obtain rfl : gap = s.gapLength head tail := funext hgap
  have hcoverage : s.coverage v head tail = (1000 * ((facesOf v.faceMask).length * (tail - head)
      - ((facesOf v.faceMask).map (s.gapLength head tail)).sum)
        / ((facesOf v.faceMask).length * (tail - head))).toNat := by
    unfold State.coverage
    rw [List.sum_eq_foldl]
  obtain ⟨hlo, hhi⟩ := sum_bounds (l := (facesOf v.faceMask).map (s.gapLength head tail))
    (n := tail - head) fun x hx => by
      obtain ⟨face, -, rfl⟩ := List.mem_map.mp hx
      exact gapLength_bounds hr h face
  rw [List.length_map] at hhi
  have hpos : 0 < ((facesOf v.faceMask).length : Int) * (tail - head) :=
    mul_pos (Int.natCast_pos.mpr (List.length_pos_of_ne_nil hfaces)) (by omega)
  generalize ((facesOf v.faceMask).length : Int) * (tail - head) = whole at *
  generalize ((facesOf v.faceMask).map (s.gapLength head tail)).sum = gaps at *
  have hnonneg : 0 ≤ 1000 * (whole - gaps) / whole := Int.ediv_nonneg (by omega) hpos.le
  have hle : 1000 * (whole - gaps) / whole ≤ 1000 := Int.ediv_le_of_le_mul hpos (by omega)
  rw [hcoverage]
  omega

end

/-! ### The highest severity (R164) -/

theorem foldl_max_spec (l : List Nat) (a : Nat) :
    a ≤ l.foldl max a ∧ (∀ x ∈ l, x ≤ l.foldl max a) ∧ (l.foldl max a = a ∨ l.foldl max a ∈ l) := by
  induction l generalizing a with
  | nil => simp
  | cons y rest ih =>
    obtain ⟨hstart, hall, hsome⟩ := ih (max a y)
    rw [List.foldl_cons]
    refine ⟨(le_max_left a y).trans hstart, fun x hx => ?_, ?_⟩
    · obtain rfl | hx := List.mem_cons.mp hx
      · exact (le_max_right a x).trans hstart
      · exact hall x hx
    · obtain he | hm := hsome
      · obtain hy | hy := max_choice a y <;> rw [he, hy] <;> simp
      · exact .inr (List.mem_cons_of_mem _ hm)

/-! ### The grade (R167) -/

section
variable {v : Setup} {fs : List Finding} {coverage : Nat} {trouble : Bool}

theorem grade_reject (h : ∃ f ∈ fs, v.rejectSeverity ≤ f.severity) :
    gradeOfBillet v fs coverage trouble = .reject :=
  if_pos (List.any_eq_true.mpr (by simpa using h))

theorem grade_below_reject (h : ∀ f ∈ fs, f.severity < v.rejectSeverity) :
    gradeOfBillet v fs coverage trouble
      = if coverage < v.coverageMinimum ∨ trouble = true then .review else .accept := by
  have hnone : ¬(fs.any fun f => v.rejectSeverity ≤ f.severity) = true := by
    rw [List.any_eq_true]
    rintro ⟨f, hf, hs⟩
    exact absurd (h f hf) (not_lt.mpr (of_decide_eq_true hs))
  unfold gradeOfBillet
  rw [if_neg hnone]
  simp only [Bool.or_eq_true, decide_eq_true_eq]

end

/-- The verdict's grade is that of its findings, its coverage and its four flags (R167). -/
theorem verdictOf_grade (s : State) (v : Setup) (b : Billet) (tail : Int) :
    (s.verdictOf v b tail).grade
      = gradeOfBillet v (findingsOf (s.record.entries.filter (Entry.liesWithin b.head tail)))
        (s.verdictOf v b tail).coverage
        ((s.verdictOf v b tail).incomplete || (s.verdictOf v b tail).truncated
          || (s.verdictOf v b tail).unverified || (s.verdictOf v b tail).late) := rfl

/-! ### The decision (R160, R161) -/

theorem hasRole_eq_false {s : State} (h : ∃ p ∈ s.hz.peers, p.state = .live ∧ p.id < s.ownId) :
    s.hasRole = false := by
  obtain ⟨p, hp, hlive, hid⟩ := h
  refine List.all_eq_false.mpr ⟨p, hp, ?_⟩
  simp [hlive, hid]

theorem hasRole_eq_true {s : State} (h : ∀ p ∈ s.hz.peers, p.state = .live → s.ownId ≤ p.id) :
    s.hasRole = true := by
  refine List.all_eq_true.mpr fun p hp => ?_
  by_cases hlive : p.state = .live
  · simp [h p hp hlive]
  · simp [hlive]

/-- Billets that are not DUE are passed over. -/
theorem decideBillets_skip {v : Setup} {pre : List Billet} (h : ∀ c ∈ pre, c.state ≠ .due)
    (rest : List Billet) (s : State) : decideBillets v (pre ++ rest) s
      = (pre ++ (decideBillets v rest s).1, (decideBillets v rest s).2) := by
  induction pre with
  | nil => rfl
  | cons c pre ih =>
    have hc := h c List.mem_cons_self
    have hrest := ih fun d hd => h d (List.mem_cons_of_mem _ hd)
    rw [List.cons_append, decideBillets]
    split
    · rename_i hdue _
      exact absurd hdue hc
    · rw [hrest]
      rfl

theorem decideBillets_none {v : Setup} {bs : List Billet} (h : ∀ c ∈ bs, c.state ≠ .due) (s : State) :
    decideBillets v bs s = (bs, s) := by
  have := decideBillets_skip (v := v) h [] s
  rwa [List.append_nil, decideBillets, List.append_nil] at this

/-- A DUE billet is reported where the queue has room (R161, R168). -/
theorem decideBillets_due {v : Setup} {b : Billet} {tail : Int} (hb : b.state = .due)
    (ht : b.tail = some tail) (rest : List Billet) (s : State) :
    decideBillets v (b :: rest) s =
      let x := s.verdictOf v b tail
      let t := s.handFrame (toAll x.test (.verdict x))
      if s.queueFull then (b :: rest, t)
      else ({ b with state := .reported, verdictSent := true, sent := some x }
        :: (decideBillets v rest t).1, (decideBillets v rest t).2) := by
  rw [decideBillets, hb, ht]

theorem toAll_verdict_body (x : Verdict) : (toAll x.test (.verdict x)).body ≠ .horizon := nofun

section
variable {s : State} {v : Setup}

theorem verdictDecision_without_role (h : s.hasRole = false) : s.verdictDecision v = s :=
  if_neg (by rw [h]; decide)

theorem verdictDecision_with_role (h : s.hasRole = true) : s.verdictDecision v
    = { (decideBillets v s.billet.billets s).2 with billet := {
        (decideBillets v s.billet.billets s).2.billet with
          billets := (decideBillets v s.billet.billets s).1 } } := if_pos h

theorem verdictDecision_of_none_due (h : ∀ b ∈ s.billet.billets, b.state ≠ .due) :
    s.verdictDecision v = s := by
  cases hr : s.hasRole with
  | false => exact verdictDecision_without_role hr
  | true =>
    rw [verdictDecision_with_role hr, decideBillets_none h]

variable {pre post : List Billet} {b : Billet} {tail : Int} (hr : s.hasRole = true)
  (hq : s.billet.billets = pre ++ b :: post) (hb : b.state = .due) (ht : b.tail = some tail)
  (hothers : ∀ c ∈ pre ++ post, c.state ≠ .due)
include hr hq hb ht hothers

/-- The only DUE billet is reported where the queue has room (R161, R168). -/
theorem verdictDecision_reports (hroom : s.xcvr.queue.length < 16) {x : Verdict}
    (hx : x = s.verdictOf v b tail) :
    s.verdictDecision v = { s.handFrame (toAll x.test (.verdict x)) with billet := { s.billet with
      billets := pre ++ { b with state := .reported, verdictSent := true, sent := some x } :: post } } := by
  subst hx
  have hpre : ∀ c ∈ pre, c.state ≠ .due := fun c hc => hothers c (List.mem_append_left _ hc)
  have hpost : ∀ c ∈ post, c.state ≠ .due := fun c hc => hothers c (List.mem_append_right _ hc)
  have hfull : s.queueFull = false := decide_eq_false (not_le.mpr hroom)
  obtain ⟨q, d, e⟩ := s.handFrame_footprint
    (toAll (s.verdictOf v b tail).test (.verdict (s.verdictOf v b tail)))
  rw [verdictDecision_with_role hr, hq, decideBillets_skip hpre, decideBillets_due hb ht, hfull]
  dsimp only
  rw [if_neg nofun, decideBillets_none hpost, e]

/-- With a full queue it stays DUE (R88, R161). -/
theorem verdictDecision_overruns (hfull : 16 ≤ s.xcvr.queue.length) :
    s.verdictDecision v = s.count .txOverrun := by
  have hpre : ∀ c ∈ pre, c.state ≠ .due := fun c hc => hothers c (List.mem_append_left _ hc)
  have hqueue : s.queueFull = true := decide_eq_true hfull
  rw [verdictDecision_with_role hr, hq, decideBillets_skip hpre, decideBillets_due hb ht, hqueue]
  dsimp only
  rw [if_pos rfl, handFrame_other (.inl (toAll_verdict_body _)), if_pos hfull, ← hq]
  rfl

end

/-- Settles O48: the entries by their kinds; the gap length of each face by the union of its stretches, the rest
of the verdict by the findings within; the decision by the role and the billets that are DUE. -/
theorem entriesLieWithinABillet : Obligations.EntriesLieWithinABillet := by
  refine ⟨fun head tail f => ?_, fun head tail a b o => ?_, fun head tail a b o x hht hab => ?_,
    fun head tail a o x => ?_, fun s v b tail pending => rfl, ?_, fun s v => ⟨fun h => ?_, fun h => ⟨?_, ?_⟩⟩⟩
  · simp [Entry.liesWithin]
  · simp [Entry.liesWithin]
  · simp only [Entry.liesWithin, Bool.and_eq_true, decide_eq_true_eq]
    omega
  · simp [Entry.liesWithin]
  · intro s v b tail inside fs faces gap x hrec hbt hfaces hne hin hfs hheld hfree hx
    subst hin hx
    obtain rfl : faces = facesOf v.faceMask := hfaces
    obtain rfl : fs = findingsOf (s.record.entries.filter (Entry.liesWithin b.head tail)) := by
      rw [hfs]
      exact congrArg (List.filterMap · _) (funext fun e => by cases e <;> rfl)
    obtain ⟨-, horder, -⟩ := hrec
    have hgap : ∀ face, gap face = s.gapLength b.head tail face := fun face => by
      cases hf : s.faceHeld face with
      | true => rw [gapLength_of_held horder hf, hheld face ((faceHeld_iff s face).mp hf)]; rfl
      | false =>
        have hnot := mt (faceHeld_iff s face).mpr (by rw [hf]; decide)
        push Not at hnot
        rw [gapLength_of_not_held hf, hfree face hnot.1 hnot.2]
    obtain ⟨hcov, hle⟩ := coverage_eq horder hbt hne hgap
    obtain ⟨-, hall, hsome⟩ := foldl_max_spec
      ((findingsOf (s.record.entries.filter (Entry.liesWithin b.head tail))).map Finding.severity) 0
    refine ⟨rfl, rfl, rfl, rfl, rfl, rfl, rfl, rfl, fun f hf => hall _ (List.mem_map_of_mem hf),
      hsome.imp_right List.mem_map.mp, hcov, hle, anyLoss_iff, rfl, List.any_eq_true, List.any_eq_true,
      List.any_eq_true, grade_reject, fun hsev => ⟨fun h => ?_, fun hc hi htr hu hl => ?_⟩⟩
    · rw [verdictOf_grade, grade_below_reject hsev]
      exact if_pos (h.imp_right fun h => by simpa only [Bool.or_eq_true, or_assoc] using h)
    · rw [verdictOf_grade, grade_below_reject hsev, hi, htr, hu, hl]
      exact if_neg (by simpa using hc)
  · exact verdictDecision_without_role (hasRole_eq_false h)
  · exact verdictDecision_of_none_due
  · intro pre post b tail x hq hb ht hothers hx
    have hr := hasRole_eq_true h
    exact ⟨fun hroom => verdictDecision_reports hr hq hb ht hothers hroom hx,
      fun hfull => verdictDecision_overruns hr hq hb ht hothers hfull⟩

end Sys2Proof.Machine
end

section
/-! SUPPORT. The peer table: what it holds of an ID after a record is put in the place of its own or joins, and what
hearing a sender leaves (R108, R109). And the hand-off of a frame that has passed every check. -/

namespace Sys2Proof.Machine

variable {s : State}

/-! ### Records by their ID (R108) -/

theorem peer_id {id : Nat} {p : Peer} (h : s.peer id = some p) : p.id = id := by
  simpa using List.find?_some h

/-- The record put in the place of its own answers for its ID, and every other record stands as it was. -/
theorem setPeer_peer (s : State) (p : Peer) (id : Nat) :
    (s.setPeer p).peer id = (s.peer id).map fun q => if q.id = p.id then p else q := by
  have hkey : ∀ q : Peer, (if q.id = p.id then p else q).id = q.id := fun q => by
    split
    · rename_i h; exact h.symm
    · rfl
  unfold State.peer
  rw [State.setPeer_peers, List.find?_map]
  congr 2
  funext q
  exact congrArg (· == id) (hkey q)

theorem setPeer_peer_self {id : Nat} {p q : Peer} (h : s.peer id = some q) (hp : p.id = id) :
    (s.setPeer p).peer id = some p := by
  rw [setPeer_peer, h, Option.map_some, if_pos ((peer_id h).trans hp.symm)]

theorem setPeer_peer_other {id : Nat} {p : Peer} (h : id ≠ p.id) :
    (s.setPeer p).peer id = s.peer id := by
  rw [setPeer_peer]
  cases hq : s.peer id with
  | none => rfl
  | some q => rw [Option.map_some, if_neg ((peer_id hq).trans_ne h)]

/-- A record that joins answers for an ID that had none. -/
theorem addPeer_peer_self {p : Peer} (h : s.peer p.id = none) : (s.addPeer p).peer p.id = some p := by
  unfold State.peer at h ⊢
  rw [State.addPeer_peers, List.find?_append, h, Option.none_or]
  exact List.find?_cons_of_pos (beq_self_eq_true p.id)

theorem peer_of_same_peers {t : State} (h : t.hz.peers = s.hz.peers) (id : Nat) :
    t.peer id = s.peer id := by
  unfold State.peer
  rw [h]

theorem peersFull_iff (s : State) : s.peersFull = true ↔ ¬s.hz.peers.length < 8 :=
  decide_eq_true_iff.trans not_lt.symm

/-! ### Hearing a sender (R109) -/

/-- The record of a sender whose frame ends now. -/
def State.heard (s : State) (p : Peer) : Peer :=
  { p with lastHeard := s.nodeTime, silenceDue := silenceAt s.ctl.setup s.nodeTime }

@[simp] theorem heard_id (s : State) (p : Peer) : (s.heard p).id = p.id := rfl

theorem hear_of_known {id : Nat} {p : Peer} (h : s.peer id = some p) :
    s.hear id = s.setPeer (s.heard p) := by
  unfold State.hear
  rw [h]
  rfl

theorem hear_of_unknown {id : Nat} (h : s.peer id = none) : s.hear id = s := by
  unfold State.hear
  rw [h]

theorem hear_peer_self {id : Nat} {p : Peer} (h : s.peer id = some p) :
    (s.hear id).peer id = some (s.heard p) := by
  rw [hear_of_known h]
  exact setPeer_peer_self h ((heard_id s p).trans (peer_id h))

theorem hear_peer_none {id : Nat} (h : s.peer id = none) : (s.hear id).peer id = none := by
  rw [hear_of_unknown h, h]

theorem hear_peer_other (s : State) {id j : Nat} (h : j ≠ id) : (s.hear id).peer j = s.peer j := by
  cases hp : s.peer id with
  | none => rw [hear_of_unknown hp]
  | some p =>
    rw [hear_of_known hp]
    exact setPeer_peer_other (by rwa [heard_id, peer_id hp])

/-- Hearing a sender leaves the offset it is placed by. -/
theorem hear_offset (s : State) (id : Nat) :
    ((s.hear id).peer id).bind Peer.offset = (s.peer id).bind Peer.offset := by
  cases hp : s.peer id with
  | none => rw [hear_peer_none hp]
  | some p => rw [hear_peer_self hp]; rfl

/-- Hearing a sender writes the peer table alone. -/
theorem hear_footprint (s : State) (id : Nat) :
    ∃ ps, s.hear id = { s with hz := { s.hz with peers := ps } } := by
  cases hp : s.peer id with
  | none => exact ⟨s.hz.peers, hear_of_unknown hp⟩
  | some p => exact ⟨_, hear_of_known hp⟩

@[simp] theorem hear_ctl (s : State) (id : Nat) : (s.hear id).ctl = s.ctl := by
  obtain ⟨ps, e⟩ := hear_footprint s id
  rw [e]

@[simp] theorem hear_billet (s : State) (id : Nat) : (s.hear id).billet = s.billet := by
  obtain ⟨ps, e⟩ := hear_footprint s id
  rw [e]

@[simp] theorem hear_diag (s : State) (id : Nat) : (s.hear id).diag = s.diag := by
  obtain ⟨ps, e⟩ := hear_footprint s id
  rw [e]

/-! ### The hand-off of a frame that has passed every check -/

/-- The command answers what the hand-off of its class makes of the state. -/
theorem exec_command_hands {c : FrameClass} {f : RxFrame} {h : FrameHead} {body : List Byte} {dt : Nat}
    {t : State} (hp : Passes s c f h body) (ht : c.hand h body (s.frameOver dt) = t) :
    exec (c.command dt f) s = .next t := by
  rw [exec_command_passed hp, ht]

/-- Positions are placed and held within 32 bits (R108). -/
theorem place_eq (o p : Int) : place o p = max (-(2 ^ 31)) (min (2 ^ 31 - 1) (p + o)) := rfl

/-! ### A CUT from a peer (R119) -/

theorem takeCutFrame_of_configured {v : Setup} (hv : s.ctl.setup = some v)
    (hm : s.ctl.mode.configured = true) (h : FrameHead) (body : List Byte) :
    State.takeCutFrame h body s
      = (s.hear h.sender).placeCut v h.sender (fieldAt body 0 4) (positionAt body 4) := by
  unfold State.takeCutFrame
  rw [hv]
  exact if_pos hm

theorem placeCut_of_offset {sender : Nat} {o : Int} (h : (s.peer sender).bind Peer.offset = some o)
    (v : Setup) (number : Nat) (position : Int) :
    s.placeCut v sender number position = s.takeCut v true number (place o position) := by
  unfold State.placeCut
  rw [h]

theorem placeCut_without_offset {sender : Nat} (h : (s.peer sender).bind Peer.offset = none)
    (v : Setup) (number : Nat) (position : Int) :
    s.placeCut v sender number position = s.count .unplaced := by
  unfold State.placeCut
  rw [h]

/-- Settles O38, by the offset the sender's record holds. -/
theorem cutFramesArePlaced : Obligations.CutFramesArePlaced := by
  intro dt s v f h body hp hv hm
  have htaken := takeCutFrame_of_configured (s := s.frameOver dt) hv hm h body
  have hoffset := hear_offset (s.frameOver dt) h.sender
  refine ⟨fun o ho => exec_command_hands hp (htaken.trans ?_),
    fun ho => exec_command_hands hp (htaken.trans ?_)⟩
  · rw [placeCut_of_offset (hoffset.trans ho), place_eq]
  · exact placeCut_without_offset (hoffset.trans ho) v _ _

/-! ### A FINDING from a peer (R118) -/

theorem takeFindingFrame_of_configured (hm : s.ctl.mode.configured = true) (h : FrameHead)
    (body : List Byte) : State.takeFindingFrame h body s
      = (s.hear h.sender).takePeerFinding h.sender (parseFinding body h.test) := if_pos hm

theorem takePeerFinding_without_offset {sender : Nat} (h : (s.peer sender).bind Peer.offset = none)
    (f : Finding) : s.takePeerFinding sender f = s.count .unplaced := by
  unfold State.takePeerFinding
  cases hp : s.peer sender with
  | none => rfl
  | some p =>
    rw [hp] at h
    dsimp only
    rw [show p.offset = none from h]

theorem takePeerFinding_of_offset {sender : Nat} {p : Peer} {o : Int} (hp : s.peer sender = some p)
    (ho : p.offset = some o) (f : Finding) : s.takePeerFinding sender f = s.placeFinding p o f := by
  unfold State.takePeerFinding
  rw [hp]
  dsimp only
  rw [ho]

/-- How far an id runs ahead, as the remainder of the difference (R115, R118). -/
theorem ahead_eq (id next : Nat) : (ahead id next : Int) = ((id : Int) - next) % 65536 := by
  unfold ahead
  omega

theorem ahead_self (id : Nat) : ahead id id = 0 := by
  unfold ahead
  omega

/-- With none expected the finding's own id is as good as the one expected (R118). -/
theorem expectAfter_eq (id : Nat) (next : Option Nat) :
    expectAfter id next
      = if ahead id (next.getD id) ≤ 32767 then (id + 1) % 65536 else next.getD id := by
  cases next with
  | none =>
    rw [Option.getD_none, ahead_self]
    rfl
  | some n => rfl

theorem missedBefore_eq (id : Nat) (next : Option Nat) :
    missedBefore id next
      = if ahead id (next.getD id) ≤ 32767 then ahead id (next.getD id) else 0 := by
  cases next with
  | none =>
    rw [Option.getD_none, ahead_self]
    rfl
  | some n => rfl

theorem reportMissed_none (s : State) (sender : Nat) (a : Option Int) (b : Int) :
    s.reportMissed 0 sender a b = s := if_pos rfl

theorem reportMissed_some {n : Nat} (h : n ≠ 0) (s : State) (sender : Nat) (a : Option Int) (b : Int) :
    s.reportMissed n sender a b
      = (s.countBy .missed n).handEntry (.loss sender (min (a.getD b) b) (max (a.getD b) b)) := if_neg h

/-- A placed finding, by the state `w` that its face leaves and the distance `d` of its id: the record
renewed, the missed findings reported, the finding handed on. -/
theorem placeFinding_eq {s w : State} {p : Peer} {o : Int} {f placed : Finding} {d : Nat}
    (hplaced : placed = { f with start := place o f.start, stop := place o f.stop })
    (hw : w = if p.face = none then s.testFace p.id f.face else s)
    (hd : d = ahead f.id (p.nextId.getD f.id)) :
    s.placeFinding p o f
      = ((w.setPeer { p with
          face := some (p.face.getD f.face)
          nextId := some (if d ≤ 32767 then (f.id + 1) % 65536 else p.nextId.getD f.id) }).reportMissed
            (if d ≤ 32767 then d else 0) p.id p.clearTo placed.start).handEntry (.finding placed) := by
  have hface : w = if p.face.isNone then s.testFace p.id f.face else s :=
    hw.trans (if_congr Option.isNone_iff_eq_none.symm rfl rfl)
  rw [hface, hplaced, hd, ← expectAfter_eq, ← missedBefore_eq]
  rfl

/-- Settles O39, by the offset the sender's record holds and how far the finding's id runs ahead. -/
theorem findingFramesArePlacedAndCounted : Obligations.FindingFramesArePlacedAndCounted := by
  intro dt s u f h body g hp hm hg hu
  have htaken : State.takeFindingFrame h body (s.frameOver dt) = u.takePeerFinding h.sender g := by
    rw [takeFindingFrame_of_configured (s := s.frameOver dt) hm, hg, hu]
  refine ⟨fun ho => exec_command_hands hp (htaken.trans ?_), fun p o placed hpeer ho hplaced w d hw hd => ?_⟩
  · refine takePeerFinding_without_offset ?_ g
    rw [hu]
    exact (hear_offset (s.frameOver dt) h.sender).trans ho
  · have hahead : d = ahead g.id (p.nextId.getD g.id) := by
      have := ahead_eq g.id (p.nextId.getD g.id)
      omega
    rw [← peer_id hpeer] at hw
    have hput := placeFinding_eq (s := u) (o := o) hplaced hw hahead
    have hexec := exec_command_hands hp (htaken.trans ((takePeerFinding_of_offset hpeer ho g).trans hput))
    refine ⟨fun hzero => hexec.trans ?_, fun hone hle k hk => hexec.trans ?_, fun hfar => hexec.trans ?_⟩
    · rw [hzero, if_pos (by decide), if_pos (by decide), reportMissed_none]
    · rw [if_pos hle, if_pos hle, reportMissed_some (by omega), hk]
      rfl
    · have hnext : some (p.nextId.getD g.id) = p.nextId := by
        cases hn : p.nextId with
        | some n => rfl
        | none =>
          rw [hn, Option.getD_none, ahead_self] at hahead
          omega
      rw [if_neg (by omega), if_neg (by omega), reportMissed_none, hnext]

/-! ### A heard VERDICT (R169, R170) -/

theorem takeVerdictFrame_of_configured (hm : s.ctl.mode.configured = true) (h : FrameHead)
    (body : List Byte) : State.takeVerdictFrame h body s
      = (s.hear h.sender).hearVerdict (parseVerdict body) := if_pos hm

/-- Billet numbers rise through the table, so a number names one billet (R152). -/
theorem find_billet {bs : List Billet} {b : Billet} {n : Nat}
    (hp : bs.Pairwise fun a b => a.head < b.head ∧ a.number < b.number) (hb : b ∈ bs)
    (hn : b.number = n) : (bs.find? fun c => c.number == n) = some b := by
  subst hn
  induction bs with
  | nil => exact nomatch hb
  | cons a rest ih =>
    obtain ⟨hfirst, hrest⟩ := List.pairwise_cons.mp hp
    obtain rfl | hmem := List.mem_cons.mp hb
    · exact List.find?_cons_of_pos (beq_self_eq_true _)
    · obtain ⟨-, hlt⟩ := hfirst b hmem
      rw [List.find?_cons_of_neg (by simpa using hlt.ne)]
      exact ih hrest hmem

theorem hearVerdict_of_other_strand {x : Verdict} (h : x.strand ≠ s.ctl.strand) :
    s.hearVerdict x = s := if_neg h

theorem hearVerdict_of_no_billet {x : Verdict} (h : ∀ b ∈ s.billet.billets, b.number ≠ x.number) :
    s.hearVerdict x = s := by
  have hnone : (s.billet.billets.find? fun b => b.number == x.number) = none :=
    List.find?_eq_none.mpr fun b hb => by simpa using h b hb
  unfold State.hearVerdict
  rw [hnone]
  exact ite_self s

theorem hearVerdict_of_billet {x : Verdict} {b : Billet} (hx : x.strand = s.ctl.strand)
    (hb : (s.billet.billets.find? fun c => c.number == x.number) = some b) :
    s.hearVerdict x = if b.state = .reported then
      if b.verdictSent && !b.sent.all x.agrees then s.setFlag .verdictMismatch else s
    else { s with billet := { s.billet with
      billets := s.billet.billets.map fun c =>
        if c.number = x.number then { c with state := .reported } else c } } := by
  unfold State.hearVerdict
  rw [if_pos hx, hb]

/-- What is compared of a heard and a sent verdict (R170). -/
theorem agrees_iff (x y : Verdict) : x.agrees y = true ↔
    x.grade = y.grade ∧ x.longitudinal = y.longitudinal ∧ x.transverse = y.transverse
      ∧ x.corner = y.corner ∧ x.minor = y.minor ∧ x.total = y.total ∧ x.length = y.length := by
  simp [Verdict.agrees, and_assoc]

/-- Settles O41, by the verdict's strand, the billet of its number and that billet's state. -/
theorem verdictFramesReportBillets : Obligations.VerdictFramesReportBillets := by
  intro dt s u f h body x hp hm hx hu
  have htaken : State.takeVerdictFrame h body (s.frameOver dt) = u.hearVerdict x := by
    rw [takeVerdictFrame_of_configured (s := s.frameOver dt) hm, hx, hu]
  have hctl : u.ctl = s.ctl := by rw [hu, hear_ctl]; rfl
  have hbillet : u.billet = s.billet := by rw [hu, hear_billet]; rfl
  refine ⟨fun hnot => exec_command_hands hp (htaken.trans ?_), fun hstrand hinv b hb hn => ?_⟩
  · obtain hstrand | hnone := hnot
    · exact hearVerdict_of_other_strand (by rwa [hctl])
    · exact hearVerdict_of_no_billet (by rwa [hbillet])
  · obtain ⟨-, hpairs, -⟩ := hinv
    have hfind := find_billet hpairs hb hn
    rw [← hbillet] at hfind
    have hexec := exec_command_hands hp (htaken.trans (hearVerdict_of_billet (by rw [hctl, hstrand]) hfind))
    refine ⟨fun hstate => hexec.trans ?_, fun hstate hsent => hexec.trans ?_,
      fun y hstate hsent hy => hexec.trans ?_⟩
    · rw [if_neg hstate, hbillet]
    · rw [if_pos hstate, hsent]
      rfl
    · rw [if_pos hstate, hsent, hy]
      by_cases hagree : x.agrees y = true
      · rw [if_pos ((agrees_iff x y).mp hagree)]
        simp [hagree]
      · rw [if_neg (mt (agrees_iff x y).mpr hagree)]
        simp [hagree]

end Sys2Proof.Machine
end

section
/-! SUPPORT. What follows where a peer's record changes: entries and verdicts are reports, a recomputation raises
the strand horizon alone, and no report sets a flag. -/

namespace Sys2Proof.Machine

/-! ### No report sets or clears a flag (R200) -/

namespace State

variable (s : State)

theorem handFrame_flags (f : TxFrame) : (s.handFrame f).diag.flags = s.diag.flags := by
  unfold State.handFrame
  split
  · rfl
  · split <;> rfl

theorem startFrom_flags (v : Setup) (before : Option Int) (q : List Mark) (s : State) :
    (startFrom v before q s).diag.flags = s.diag.flags := by
  induction q generalizing s with
  | nil => rfl
  | cons m rest ih =>
    unfold startFrom
    split
    · exact ih _
    · split
      · split
        · exact ih _
        · dsimp only
          split <;> rfl
      · rfl

theorem offerMark_flags (v : Setup) (new : Mark) : (s.offerMark v new).diag.flags = s.diag.flags := by
  unfold State.offerMark State.startTest
  split
  · rfl
  · split
    · rfl
    · split
      · rfl
      · split
        · rfl
        · split
          · rfl
          · exact startFrom_flags _ _ _ _

theorem feedMarker_flags (f : Finding) : (s.feedMarker f).diag.flags = s.diag.flags := by
  unfold State.feedMarker State.markFinding
  split
  · rfl
  · split
    · split
      · rfl
      · exact s.offerMark_flags _ _
    · rfl

theorem makeRoom_flags : s.makeRoom.diag.flags = s.diag.flags := by
  unfold State.makeRoom
  split
  · rfl
  · split <;> rfl

theorem evict_flags : s.evict.diag.flags = s.diag.flags := by
  obtain ⟨r, e⟩ := s.evict_footprint
  rw [e]

theorem commitEntry_flags (v : Setup) (e : Entry) : (s.commitEntry v e).diag.flags = s.diag.flags := by
  cases e with
  | finding f =>
    unfold State.commitEntry
    dsimp only
    split
    · exact feedMarker_flags _ _
    · exact (feedMarker_flags _ f).trans s.makeRoom_flags
  | loss o a b => exact s.makeRoom_flags
  | gap f o a b => exact s.makeRoom_flags

theorem commitBelow_flags (v : Setup) (h : Int) : (s.commitBelow v h).diag.flags = s.diag.flags := by
  have hall : ∀ (es : List Entry) (t : State),
      (es.foldl (State.commitEntry v) t).diag.flags = t.diag.flags := fun es => by
    induction es with
    | nil => exact fun _ => rfl
    | cons e rest ih => exact fun t => (ih _).trans (t.commitEntry_flags v e)
  exact (evict_flags _).trans (hall _ _)

theorem takeLate_flags (e : Entry) : (s.takeLate e).diag.flags = s.diag.flags := by
  cases e with
  | finding f =>
    exact (evict_flags _).trans ((feedMarker_flags _ _).trans (makeRoom_flags (s.count .late)))
  | loss o a b => exact (evict_flags _).trans (makeRoom_flags (s.count .late))
  | gap f o a b => exact (evict_flags _).trans (makeRoom_flags (s.count .late))

theorem handEntry_flags (e : Entry) : (s.handEntry e).diag.flags = s.diag.flags := by
  unfold State.handEntry State.toPending
  split
  · split <;> rfl
  · split
    · exact s.takeLate_flags e
    · split <;> rfl

theorem decideBillets_flags (v : Setup) (bs : List Billet) (s : State) :
    (decideBillets v bs s).2.diag.flags = s.diag.flags := by
  induction bs generalizing s with
  | nil => rfl
  | cons b rest ih =>
    unfold decideBillets
    split
    · dsimp only
      split
      · exact s.handFrame_flags _
      · exact (ih _).trans (s.handFrame_flags _)
    · exact ih s

theorem verdictDecision_flags (v : Setup) : (s.verdictDecision v).diag.flags = s.diag.flags := by
  unfold State.verdictDecision
  split
  · exact decideBillets_flags v _ s
  · rfl

theorem recomputeHorizon_flags (v : Setup) : (s.recomputeHorizon v).diag.flags = s.diag.flags := by
  unfold State.recomputeHorizon
  split
  · exact (verdictDecision_flags _ v).trans (commitBelow_flags _ v _)
  · rfl

end State

/-! ### Aftermath -/

/-- From `s` to `t` only reports and recomputations of the strand horizon: peer table, own clear-to and flags
are as they were. -/
structure Aftermath (s t : State) : Prop where
  writes : ∃ p : Reported, p.ownClearTo = s.hz.ownClearTo ∧ t = s.reported p
  flags : t.diag.flags = s.diag.flags

namespace Aftermath

variable {s t u : State}

theorem refl (s : State) : Aftermath s s :=
  ⟨⟨⟨s.hz.ownClearTo, s.hz.horizon, s.record, s.billet, s.marker, s.xcvr.queue, s.xcvr.send, s.diag⟩,
    rfl, rfl⟩, rfl⟩

theorem after (h : Aftermath t u) (k : Aftermath s t) : Aftermath s u := by
  obtain ⟨⟨q, hq, rfl⟩, hf⟩ := h
  obtain ⟨⟨p, hp, rfl⟩, kf⟩ := k
  exact ⟨⟨q, hq.trans hp, rfl⟩, hf.trans kf⟩

/-- What changed, as the statements name it. -/
theorem eq (h : Aftermath s t) :
    t = { s with
      xcvr := { s.xcvr with queue := t.xcvr.queue, send := t.xcvr.send }
      hz := { s.hz with horizon := t.hz.horizon }
      record := t.record, billet := t.billet, marker := t.marker, diag := t.diag } := by
  obtain ⟨⟨⟨own, hor, r, b, m, q, n, d⟩, hp, rfl⟩, -⟩ := h
  obtain rfl : own = s.hz.ownClearTo := hp
  rfl

theorem peers (h : Aftermath s t) : t.hz.peers = s.hz.peers := by
  rw [h.eq]

theorem flag (h : Aftermath s t) (f : DiagFlag) : t.flag f = s.flag f := by
  unfold State.flag
  rw [h.flags]

/-- A record may as well be put in its place before what is reported. -/
theorem setPeer (h : Aftermath s t) (p : Peer) : Aftermath (s.setPeer p) (t.setPeer p) := by
  obtain ⟨⟨r, hr, rfl⟩, hf⟩ := h
  exact ⟨⟨r, hr, rfl⟩, hf⟩

end Aftermath

variable (s : State)

theorem count_aftermath (c : Counter) (n : Nat) : Aftermath s (s.countBy c n) :=
  ⟨⟨⟨s.hz.ownClearTo, s.hz.horizon, s.record, s.billet, s.marker, s.xcvr.queue, s.xcvr.send, _⟩, rfl, rfl⟩,
    rfl⟩

theorem handEntry_aftermath (e : Entry) : Aftermath s (s.handEntry e) := by
  obtain ⟨r, b, m, d, h⟩ := s.handEntry_footprint e
  exact ⟨⟨_, rfl, h.trans (s.eq_reported r b m d)⟩, s.handEntry_flags e⟩

theorem closeGap_aftermath (face subject : Nat) (start stop : Int) :
    Aftermath s (s.closeGap face subject start stop) := by
  obtain ⟨r, h⟩ := s.closeGap_footprint face subject start stop
  rw [h]
  exact ⟨⟨_, rfl, s.eq_reported r s.billet s.marker s.diag⟩, rfl⟩

theorem verdictDecision_aftermath (v : Setup) : Aftermath s (s.verdictDecision v) := by
  obtain ⟨b, x, d, h⟩ := s.verdictDecision_footprint v
  obtain ⟨q, n, hx⟩ := (s.verdictDecision_reports v).xcvr
  refine ⟨⟨⟨s.hz.ownClearTo, s.hz.horizon, s.record, b, s.marker, q, n, d⟩, rfl, ?_⟩,
    s.verdictDecision_flags v⟩
  unfold State.reported
  rw [← hx, h]

theorem recomputeHorizon_aftermath (v : Setup) : Aftermath s (s.recomputeHorizon v) := by
  obtain ⟨r, b, m, x, d, h⟩ := s.recomputeHorizon_footprint v
  obtain ⟨q, n, hx⟩ := (s.recomputeHorizon_reports v).xcvr
  refine ⟨⟨⟨s.hz.ownClearTo, s.newHorizon, r, b, m, q, n, d⟩, rfl, ?_⟩, s.recomputeHorizon_flags v⟩
  unfold State.reported
  rw [← hx, h]

/-- The strand horizon after a recomputation (R122). -/
theorem recomputeHorizon_horizon (v : Setup) : (s.recomputeHorizon v).hz.horizon = s.newHorizon := by
  obtain ⟨r, b, m, x, d, h⟩ := s.recomputeHorizon_footprint v
  rw [h]

@[simp] theorem verdictDecision_hz (v : Setup) : (s.verdictDecision v).hz = s.hz := by
  obtain ⟨b, x, d, h⟩ := s.verdictDecision_footprint v
  rw [h]

@[simp] theorem handEntry_hz (e : Entry) : (s.handEntry e).hz = s.hz := by
  obtain ⟨r, b, m, d, h⟩ := s.handEntry_footprint e
  rw [h]

@[simp] theorem closeGap_hz (face subject : Nat) (start stop : Int) :
    (s.closeGap face subject start stop).hz = s.hz := by
  obtain ⟨r, h⟩ := s.closeGap_footprint face subject start stop
  rw [h]

theorem liveChanged_aftermath : Aftermath s s.liveChanged := by
  unfold State.liveChanged
  split
  · exact .refl s
  · exact (verdictDecision_aftermath _ _).after (recomputeHorizon_aftermath s _)

theorem liveChanged_horizon_le : s.hz.horizon ≤ s.liveChanged.hz.horizon := by
  unfold State.liveChanged
  split
  · exact le_rfl
  · rw [verdictDecision_hz, recomputeHorizon_horizon]
    exact le_max_left _ _

end Sys2Proof.Machine
end

section
/-! SUPPORT. A record that leaves LIVE: by an ANNOUNCE (O42) or by silence (O43). -/

namespace Sys2Proof.Machine

variable {s : State}

/-! ### A record leaves its state (R110, R120) -/

/-- The record `q` takes the place of `p`; from LIVE, `p` leaves its GAP and the strand horizon is recomputed. -/
def State.leave (s : State) (p q : Peer) : State :=
  if p.state = .live then ((s.handLeavingGap p).setPeer q).liveChanged
  else (s.handLeavingGap p).setPeer q

theorem silence_eq_leave (s : State) (p : Peer) : s.silence p = s.leave p p.silenced := rfl

theorem leavingGap_of_not_live {p : Peer} (h : p.state ≠ .live) : p.leavingGap = none := by
  unfold Peer.leavingGap
  split
  · rename_i hlive _ _ _
    exact absurd hlive h
  · rfl

theorem leave_of_not_live {p : Peer} (h : p.state ≠ .live) (q : Peer) : s.leave p q = s.setPeer q := by
  unfold State.leave State.handLeavingGap
  rw [if_neg h, leavingGap_of_not_live h]

theorem handLeavingGap_aftermath (s : State) (p : Peer) : Aftermath s (s.handLeavingGap p) := by
  unfold State.handLeavingGap
  split
  · exact .refl s
  · exact handEntry_aftermath s _

@[simp] theorem handLeavingGap_hz (s : State) (p : Peer) : (s.handLeavingGap p).hz = s.hz := by
  unfold State.handLeavingGap
  split
  · rfl
  · exact handEntry_hz s _

@[simp] theorem setPeer_horizon (s : State) (p : Peer) :
    (s.setPeer p).hz.horizon = s.hz.horizon := rfl

/-- Beside the record only reports and the strand horizon change. -/
theorem leave_aftermath (s : State) (p q : Peer) : Aftermath (s.setPeer q) (s.leave p q) := by
  have hset := (handLeavingGap_aftermath s p).setPeer q
  unfold State.leave
  split
  · exact (liveChanged_aftermath _).after hset
  · exact hset

theorem leave_horizon_le (s : State) (p q : Peer) : s.hz.horizon ≤ (s.leave p q).hz.horizon := by
  have hset : ((s.handLeavingGap p).setPeer q).hz.horizon = s.hz.horizon := by
    rw [setPeer_horizon, handLeavingGap_hz]
  unfold State.leave
  split
  · exact hset.ge.trans (liveChanged_horizon_le _)
  · exact hset.ge

theorem leave_peer {id : Nat} {p q : Peer} (h : s.peer id = some p) (hq : q.id = p.id) :
    (s.leave p q).peer id = some q :=
  (peer_of_same_peers (leave_aftermath s p q).peers id).trans
    (setPeer_peer_self h (hq.trans (peer_id h)))

/-- What leaving writes, as the statements name it. -/
theorem leave_eq (s : State) (p q : Peer) : s.leave p q = { s with
    xcvr := { s.xcvr with queue := (s.leave p q).xcvr.queue, send := (s.leave p q).xcvr.send }
    hz := { s.hz with peers := (s.leave p q).hz.peers, horizon := (s.leave p q).hz.horizon }
    record := (s.leave p q).record, billet := (s.leave p q).billet
    marker := (s.leave p q).marker, diag := (s.leave p q).diag } := by
  rw [(leave_aftermath s p q).peers]
  exact (leave_aftermath s p q).eq

/-- The gap that stays open when a LIVE record leaves its state: from its clear-to where it was covering, else the
one it holds. -/
def Peer.gapLeft (p : Peer) : Option (Nat × Int) :=
  match p.face, p.clearTo with
  | some x, some k => if p.covering then some (x, k) else p.openGap
  | _, _ => p.openGap

theorem keepGap_of_not_live {p : Peer} (h : p.state ≠ .live) : p.keepGap = p := by
  unfold Peer.keepGap
  rw [leavingGap_of_not_live h]
  rfl

theorem keepGap_of_live {p : Peer} (h : p.state = .live) : p.keepGap.openGap = p.gapLeft := by
  obtain ⟨id, face, state, lastHeard, offset, clearTo, covering, nextId, openGap, silenceDue⟩ := p
  obtain rfl : state = .live := h
  cases face <;> cases clearTo <;> cases covering <;> rfl

/-! ### An ANNOUNCE (R110, R111) -/

theorem takeAnnounceFrame_of_strapped (hm : s.ctl.mode ≠ .unstrapped) (h : FrameHead)
    (body : List Byte) : State.takeAnnounceFrame h body s
      = if fieldAt body 2 1 = s.ctl.strand
        then (s.hear h.sender).takeAnnounce h.sender (fieldAt body 3 1) else s.hear h.sender := if_neg hm

theorem takeAnnounce_of_unknown {sender : Nat} (h : s.peer sender = none) (face : Nat) :
    s.takeAnnounce sender face = if s.hz.peers.length < 8
      then (s.testFace sender face).addPeer (newPeer sender (some face) s.nodeTime s.ctl.setup)
      else s.setFlag .peerOverflow := by
  unfold State.takeAnnounce
  rw [h]
  dsimp only
  rw [if_congr (peersFull_iff s) rfl rfl, ite_not]

theorem takeAnnounce_of_known {sender : Nat} {p : Peer} (h : s.peer sender = some p) (face : Nat) :
    s.takeAnnounce sender face = (s.testFace sender face).leave p (p.afterAnnounce face) := by
  unfold State.takeAnnounce
  rw [h]
  rfl

theorem testFace_footprint (s : State) (sender face : Nat) :
    ∃ d, s.testFace sender face = { s with diag := d } := by
  unfold State.testFace
  split
  · exact ⟨_, rfl⟩
  · exact ⟨s.diag, rfl⟩

/-- FACE-CONFLICT after a test: set before, or the face is held (R111). -/
theorem testFace_flag (s : State) (sender face : Nat) :
    (s.testFace sender face).flag .faceConflict = true
      ↔ s.flag .faceConflict = true ∨ s.faceClash sender face = true := by
  unfold State.testFace
  split
  · rename_i hclash
    simp [hclash]
  · rename_i hclash
    simp [hclash]

theorem faceClash_iff (s : State) (sender face : Nat) : s.faceClash sender face = true
    ↔ s.ctl.face = face ∨ ∃ q ∈ s.hz.peers, q.id ≠ sender ∧ q.face = some face := by
  simp [State.faceClash]

/-- Hearing a sender leaves every record's ID and face, so the test of R111 comes out as before it. -/
theorem faceClash_hear (s : State) (id face : Nat) :
    (s.hear id).faceClash id face = s.faceClash id face := by
  cases hp : s.peer id with
  | none => rw [hear_of_unknown hp]
  | some p =>
    rw [hear_of_known hp]
    unfold State.faceClash
    rw [State.setPeer_peers, List.any_map, State.setPeer_ctl]
    congr 2
    funext q
    by_cases hq : q.id = p.id
    · simp [hq, peer_id hp]
    · simp [hq]

theorem testFace_peer (s : State) (sender face id : Nat) :
    (s.testFace sender face).peer id = s.peer id :=
  peer_of_same_peers (congrArg HorizonUnit.peers (testFace_peers s sender face)) id

theorem afterAnnounce_of_not_live {p : Peer} (h : p.state ≠ .live) (face : Nat) :
    p.afterAnnounce face = { p with
      face := some face, state := .joining, offset := none, clearTo := none, covering := false
      nextId := none } := by
  unfold Peer.afterAnnounce
  rw [keepGap_of_not_live h]

theorem afterAnnounce_eq (p : Peer) (face : Nat) : p.afterAnnounce face = { p with
    face := some face, state := .joining, offset := none, clearTo := none, covering := false
    nextId := none, openGap := p.keepGap.openGap } := rfl

/-- Settles O42, by the strand the frame names and the record its sender has. -/
theorem announceFramesRestartTheRecord : Obligations.AnnounceFramesRestartTheRecord := by
  intro dt s u f h body face hp hm hface hu
  have htaken := takeAnnounceFrame_of_strapped (s := s.frameOver dt) hm h body
  rw [← hu, ← hface] at htaken
  have hexec : ∀ {t}, fieldAt body 2 1 = s.ctl.strand → u.takeAnnounce h.sender face = t →
      exec (.announceFrame dt f) s = .next t := fun hown ht =>
    exec_command_hands hp (htaken.trans ((if_pos hown).trans ht))
  refine ⟨fun hother => exec_command_hands hp (htaken.trans (if_neg hother)), fun hown hnone => ?_,
    fun p hown hpeer hlive => ?_, fun p hown hpeer hlive => ?_⟩
  · obtain rfl : u = s.frameOver dt := hu.trans (hear_of_unknown hnone)
    exact hexec hown (takeAnnounce_of_unknown (s := s.frameOver dt) hnone face)
  · refine hexec hown ((takeAnnounce_of_known hpeer face).trans ?_)
    rw [leave_of_not_live hlive, afterAnnounce_of_not_live hlive]
  · have hleave := leave_eq (u.testFace h.sender face) p (p.afterAnnounce face)
    have hheld := (testFace_peer u h.sender face h.sender).trans hpeer
    have hrecord := leave_peer (q := p.afterAnnounce face) hheld rfl
    have hflag := (leave_aftermath (u.testFace h.sender face) p (p.afterAnnounce face)).flag .faceConflict
    refine ⟨_, hexec hown (takeAnnounce_of_known hpeer face), ?_, ?_, ?_⟩
    · obtain ⟨d, htest⟩ := testFace_footprint u h.sender face
      rw [htest] at hleave ⊢
      exact hleave
    · rw [hrecord, afterAnnounce_eq, keepGap_of_live hlive]
      rfl
    · have htest : ((u.testFace h.sender face).setPeer (p.afterAnnounce face)).flag .faceConflict
          = (u.testFace h.sender face).flag .faceConflict := rfl
      have hbefore : u.flag .faceConflict = s.flag .faceConflict := by
        rw [hu]
        unfold State.flag
        rw [hear_diag]
        rfl
      rw [hflag, htest, testFace_flag, hbefore, hu, faceClash_hear, faceClash_iff]
      rfl

/-! ### Silence (R120) -/

theorem exec_silenceTimerExpiry_running (hr : s.resetting = none) (dt id : Nat) :
    exec (.silenceTimerExpiry dt id) s = .next ((s.begin dt).takeSilence id) :=
  event_running hr dt (State.takeSilence · id)

theorem takeSilence_of_running {id due : Nat} {p : Peer} (hp : s.peer id = some p)
    (hdue : p.silenceDue = some due) :
    s.takeSilence id = if due ≤ s.nodeTime then s.leave p p.silenced else s := by
  unfold State.takeSilence
  rw [hp]
  dsimp only
  rw [hdue, silence_eq_leave]
  exact if_congr decide_eq_true_iff rfl rfl

theorem silenced_of_not_live {p : Peer} (h : p.state ≠ .live) :
    p.silenced = { p with state := .silent, covering := false, silenceDue := none } := by
  unfold Peer.silenced
  rw [keepGap_of_not_live h]

theorem silenced_eq (p : Peer) : p.silenced = { p with
    state := .silent, covering := false, silenceDue := none, openGap := p.keepGap.openGap } := rfl

/-- Settles O43: hearing a sender renews its record alone; an expiry by its due time and the record's state. -/
theorem silenceEndsTheRecord : Obligations.SilenceEndsTheRecord := by
  refine ⟨fun s id p hp => ⟨hear_peer_self hp, fun j hj => hear_peer_other s hj⟩,
    fun dt id due s p hr hp hdue => ?_⟩
  rw [exec_silenceTimerExpiry_running hr, takeSilence_of_running (s := s.begin dt) hp hdue]
  refine ⟨fun hearly => ?_, fun hlate hlive => ?_, fun hlate hlive => ⟨_, rfl, ?_, ?_, ?_⟩⟩
  · rw [if_neg (not_le.mpr hearly)]
  · rw [if_pos hlate, leave_of_not_live hlive, silenced_of_not_live hlive]
  all_goals rw [if_pos hlate]
  · exact leave_eq (s.begin dt) p p.silenced
  · rw [leave_peer (s := s.begin dt) (q := p.silenced) hp rfl, silenced_eq, keepGap_of_live hlive]
    rfl
  · exact leave_horizon_le (s.begin dt) p p.silenced

end Sys2Proof.Machine
end

section
/-! SUPPORT. A HORIZON frame and its five steps (O40). -/

namespace Sys2Proof.Machine

variable {s : State}

/-! ### The sender's record (R111, R112) -/

theorem ensurePeer_of_known {sender : Nat} {p : Peer} (h : s.peer sender = some p) :
    s.ensurePeer sender = s.hear sender := by
  unfold State.ensurePeer
  rw [h]

theorem ensurePeer_of_unknown {sender : Nat} (h : s.peer sender = none) :
    s.ensurePeer sender = if s.hz.peers.length < 8
      then s.addPeer (newPeer sender none s.nodeTime s.ctl.setup) else s.setFlag .peerOverflow := by
  unfold State.ensurePeer
  rw [h]
  dsimp only
  rw [if_congr (peersFull_iff s) rfl rfl, ite_not]

/-- The peer table and the flags alone are written. -/
theorem ensurePeer_footprint (s : State) (sender : Nat) :
    ∃ ps fs, s.ensurePeer sender
      = { s with hz := { s.hz with peers := ps }, diag := { s.diag with flags := fs } } := by
  unfold State.ensurePeer
  split
  · obtain ⟨ps, e⟩ := hear_footprint s sender
    exact ⟨ps, s.diag.flags, e⟩
  · split
    · exact ⟨s.hz.peers, _, rfl⟩
    · exact ⟨_, s.diag.flags, rfl⟩

/-! ### The hand-off by mode (R112) -/

theorem takeHorizonFrame_of_strapped (hm : s.ctl.mode ≠ .unstrapped) (h : FrameHead) (body : List Byte) :
    State.takeHorizonFrame h body s = if s.ctl.mode.configured then
      match (s.ensurePeer h.sender).ctl.setup, (s.ensurePeer h.sender).peer h.sender with
      | some v, some p => (s.ensurePeer h.sender).fiveSteps v p (parseHorizon body)
      | _, _ => s.ensurePeer h.sender
    else s.ensurePeer h.sender := if_neg hm

/-- Before SETUP, or for a sender that the full table leaves out, the frame ends with its record (R111, R112). -/
theorem takeHorizonFrame_for_liveness (hm : s.ctl.mode ≠ .unstrapped) {h : FrameHead}
    (hend : s.ctl.mode.configured = false ∨ (s.ensurePeer h.sender).peer h.sender = none)
    (body : List Byte) : State.takeHorizonFrame h body s = s.ensurePeer h.sender := by
  rw [takeHorizonFrame_of_strapped hm]
  obtain hc | hnone := hend
  · rw [hc]
    rfl
  · rw [hnone]
    cases (s.ensurePeer h.sender).ctl.setup <;> exact ite_self _

theorem takeHorizonFrame_of_configured {v : Setup} {p : Peer} {h : FrameHead}
    (hv : s.ctl.setup = some v) (hc : s.ctl.mode.configured = true)
    (hp : (s.ensurePeer h.sender).peer h.sender = some p) (body : List Byte) :
    State.takeHorizonFrame h body s = (s.ensurePeer h.sender).fiveSteps v p (parseHorizon body) := by
  have hm : s.ctl.mode ≠ .unstrapped := fun hm => by rw [hm] at hc; exact nomatch hc
  have hv' : (s.ensurePeer h.sender).ctl.setup = some v := by
    obtain ⟨ps, fs, e⟩ := ensurePeer_footprint s h.sender
    rw [e]
    exact hv
  rw [takeHorizonFrame_of_strapped hm, hc, hv', hp]
  rfl

/-! ### The steps one by one (R113 to R116) -/

section
variable {v : Setup} {p : Peer} {o c : Int}

/-- The offset jumped by more than the slip tolerance (R113). -/
theorem slips_iff : (p.offset.any fun old => v.slipTolerance < distance o old) = true
    ↔ ∃ k ∈ p.offset, (v.slipTolerance : Int) < |o - k| := by
  have hlt : ∀ k : Int, v.slipTolerance < distance o k ↔ (v.slipTolerance : Int) < |o - k| := fun k => by
    unfold distance
    rw [Int.abs_eq_natAbs]
    exact Int.ofNat_lt.symm
  cases p.offset <;> simp [hlt]

theorem stepOffset_slip_first (h : p.offset = none) :
    (s.stepOffset v p o).counter .slip = s.counter .slip := by
  unfold State.stepOffset
  rw [h]
  rfl

theorem stepOffset_slip {k : Int} (h : p.offset = some k) : (s.stepOffset v p o).counter .slip
    = if (v.slipTolerance : Int) < |o - k| then min 65535 (s.counter .slip + 1) else s.counter .slip := by
  unfold State.stepOffset
  rw [if_congr slips_iff rfl rfl, h]
  by_cases hk : (v.slipTolerance : Int) < |o - k|
  · rw [if_pos ⟨k, rfl, hk⟩, if_pos hk]
    exact s.count_counter_self .slip
  · rw [if_neg (fun ⟨j, hj, h⟩ => hk (by rwa [Option.some.inj hj])), if_neg hk]

/-- Findings missed, by how far the sender's last id runs ahead of what was expected (R115). -/
theorem missedUpTo_eq {valid : Bool} {last d : Nat} {next : Option Nat}
    (hd : (d : Int) = match valid, next with
      | true, some n => ((last : Int) + 1 - n) % 65536
      | _, _ => 0) :
    missedUpTo valid last next = if d ≤ 32767 then d else 0 := by
  have hnone : (d : Int) = 0 → 0 = if d ≤ 32767 then d else 0 := fun h => by
    split <;> omega
  cases valid with
  | false => exact hnone hd
  | true =>
    cases next with
    | none => exact hnone hd
    | some n =>
      have hahead : ahead (last + 1) n = d := by
        have := ahead_eq (last + 1) n
        push_cast at this
        exact Int.ofNat_inj.mp (this.trans hd.symm)
      rw [← hahead]
      rfl

theorem reportMissed_within (s : State) (d sender : Nat) (a : Option Int) (b : Int) :
    s.reportMissed (if d ≤ 32767 then d else 0) sender a b
      = if 1 ≤ d ∧ d ≤ 32767 then (s.countBy .missed d).handEntry
          (.loss sender (min (a.getD b) b) (max (a.getD b) b)) else s := by
  by_cases hd : 1 ≤ d ∧ d ≤ 32767
  · obtain ⟨hone, hle⟩ := hd
    rw [if_pos hle, if_pos ⟨hone, hle⟩, reportMissed_some (by omega)]
  · rw [if_neg hd, show (if d ≤ 32767 then d else 0) = 0 by split <;> omega, reportMissed_none]

/-- The open gap after the covering bit is taken: none under a peer that covers, else the one held or a new one,
and as it was where the record has no face (R116). -/
theorem gapAfter_eq (p : Peer) (covering : Bool) (c : Int) : p.gapAfter covering c = match p.face with
    | none => p.openGap
    | some x => if covering then none else p.openGap.orElse fun _ => some (x, p.clearTo.getD c) := by
  unfold Peer.gapAfter
  cases p.face with
  | none => rfl
  | some x => cases covering <;> cases p.openGap <;> rfl

end

@[simp] theorem afterHorizon_id (p : Peer) (b : HorizonBody) (o : Int) :
    (p.afterHorizon b o).id = p.id := rfl

/-! ### What the first four steps write -/

/-- The state in which the first four steps leave the node. -/
def State.fourSteps (s : State) (v : Setup) (p : Peer) (b : HorizonBody) (o : Int) : State :=
  (((s.stepOffset v p o).stepNote p.id o b.note).reportMissed
    (missedUpTo b.lastValid b.lastId p.nextId) p.id p.clearTo (place o b.clearTo)).stepCovering p
      b.covering (place o b.clearTo)

/-- After them the record is put in its place, the strand horizon recomputed, and a change into LIVE decided on
(R117). -/
theorem fiveSteps_eq (s : State) (v : Setup) (p : Peer) (b : HorizonBody) {o : Int}
    (ho : o = s.travel.position - b.stamp) : s.fiveSteps v p b
      = if p.state = .live
        then ((s.fourSteps v p b o).setPeer (p.afterHorizon b o)).recomputeHorizon v
        else (((s.fourSteps v p b o).setPeer (p.afterHorizon b o)).recomputeHorizon v).verdictDecision v := by
  subst ho
  rfl

/-- A step of the first four: reports that leave the strand horizon and, but for the first, SLIP. -/
structure QuietStep (s t : State) : Prop where
  aftermath : Aftermath s t
  hz : t.hz = s.hz
  slip : t.counter .slip = s.counter .slip

namespace QuietStep

theorem refl (s : State) : QuietStep s s := ⟨.refl s, rfl, rfl⟩

theorem after {s t u : State} (h : QuietStep t u) (k : QuietStep s t) : QuietStep s u :=
  ⟨h.aftermath.after k.aftermath, h.hz.trans k.hz, h.slip.trans k.slip⟩

theorem handEntry (s : State) (e : Entry) : QuietStep s (s.handEntry e) :=
  ⟨handEntry_aftermath s e, handEntry_hz s e, (s.handEntry_reports e).counter .slip (by decide)⟩

theorem stepNote (s : State) (sender : Nat) (o : Int) (note : Option (Int × Int)) :
    QuietStep s (s.stepNote sender o note) := by
  unfold State.stepNote
  split
  · exact .refl s
  · exact .handEntry s _

theorem reportMissed (s : State) (n sender : Nat) (a : Option Int) (b : Int) :
    QuietStep s (s.reportMissed n sender a b) := by
  unfold State.reportMissed
  split
  · exact .refl s
  · exact (handEntry _ _).after
      ⟨count_aftermath s _ _, rfl, s.countBy_counter_other n (c := .missed) (d := .slip) (by decide)⟩

theorem stepCovering (s : State) (p : Peer) (covering : Bool) (c : Int) :
    QuietStep s (s.stepCovering p covering c) := by
  unfold State.stepCovering
  split
  · exact .handEntry s _
  · refine ⟨closeGap_aftermath s _ _ _ _, closeGap_hz s _ _ _ _, ?_⟩
    obtain ⟨r, e⟩ := s.closeGap_footprint _ _ _ _
    rw [e]
    rfl
  · exact .refl s

end QuietStep

section
variable (s : State) (v : Setup) (p : Peer) (b : HorizonBody) (o : Int)

theorem stepOffset_aftermath : Aftermath s (s.stepOffset v p o) := by
  unfold State.stepOffset
  split
  · exact count_aftermath s _ _
  · exact .refl s

@[simp] theorem stepOffset_hz : (s.stepOffset v p o).hz = s.hz := by
  unfold State.stepOffset
  split <;> rfl

/-- The second, third and fourth step. -/
theorem fourSteps_quiet : QuietStep (s.stepOffset v p o) (s.fourSteps v p b o) :=
  (QuietStep.stepCovering _ _ _ _).after
    ((QuietStep.reportMissed _ _ _ _ _).after (QuietStep.stepNote _ _ _ _))

theorem fourSteps_aftermath : Aftermath s (s.fourSteps v p b o) :=
  (fourSteps_quiet s v p b o).aftermath.after (stepOffset_aftermath s v p o)

@[simp] theorem fourSteps_hz : (s.fourSteps v p b o).hz = s.hz :=
  (fourSteps_quiet s v p b o).hz.trans (stepOffset_hz s v p o)

end

/-! ### What the five steps leave (R117, R122) -/

theorem newHorizon_of_same_hz {s t : State} (h : t.hz = s.hz) : t.newHorizon = s.newHorizon := by
  unfold State.newHorizon
  rw [h]

theorem setPeer_same_hz {s t : State} (h : t.hz = s.hz) (p : Peer) :
    (t.setPeer p).hz = (s.setPeer p).hz := by
  unfold State.setPeer
  rw [h]

section
variable {v : Setup} {p : Peer} {b : HorizonBody} {o : Int} (ho : o = s.travel.position - b.stamp)
include ho

theorem fiveSteps_aftermath : Aftermath (s.setPeer (p.afterHorizon b o)) (s.fiveSteps v p b) := by
  have hset := (fourSteps_aftermath s v p b o).setPeer (p.afterHorizon b o)
  have hrise := (recomputeHorizon_aftermath _ v).after hset
  rw [fiveSteps_eq s v p b ho]
  split
  · exact hrise
  · exact (verdictDecision_aftermath _ v).after hrise

theorem fiveSteps_horizon :
    (s.fiveSteps v p b).hz.horizon = (s.setPeer (p.afterHorizon b o)).newHorizon := by
  have hset := newHorizon_of_same_hz (setPeer_same_hz (fourSteps_hz s v p b o) (p.afterHorizon b o))
  rw [fiveSteps_eq s v p b ho]
  split
  · rw [recomputeHorizon_horizon, hset]
  · rw [verdictDecision_hz, recomputeHorizon_horizon, hset]

/-- SLIP counts in the first step or not at all. -/
theorem fiveSteps_slip :
    (s.fiveSteps v p b).counter .slip = (s.stepOffset v p o).counter .slip := by
  have hfour : ((s.fourSteps v p b o).setPeer (p.afterHorizon b o)).counter .slip
      = (s.stepOffset v p o).counter .slip := (fourSteps_quiet s v p b o).slip
  have hrise := State.recomputeHorizon_reports ((s.fourSteps v p b o).setPeer (p.afterHorizon b o)) v
  rw [fiveSteps_eq s v p b ho]
  split
  · exact (hrise.counter .slip (by decide)).trans hfour
  · exact (((State.verdictDecision_reports _ v).after hrise).counter .slip (by decide)).trans hfour

/-- What the five steps write, as the statements name it. -/
theorem fiveSteps_writes : s.fiveSteps v p b = { s with
    xcvr := { s.xcvr with
      queue := (s.fiveSteps v p b).xcvr.queue, send := (s.fiveSteps v p b).xcvr.send }
    hz := { s.hz with
      peers := (s.fiveSteps v p b).hz.peers, horizon := (s.fiveSteps v p b).hz.horizon }
    record := (s.fiveSteps v p b).record, billet := (s.fiveSteps v p b).billet
    marker := (s.fiveSteps v p b).marker, diag := (s.fiveSteps v p b).diag } := by
  have h := fiveSteps_aftermath (v := v) (p := p) ho
  rw [h.peers]
  exact h.eq

theorem fiveSteps_peer_self {id : Nat} (hp : s.peer id = some p) :
    (s.fiveSteps v p b).peer id = some (p.afterHorizon b o) :=
  (peer_of_same_peers (fiveSteps_aftermath ho).peers id).trans
    (setPeer_peer_self hp (by rw [afterHorizon_id, peer_id hp]))

theorem fiveSteps_peer_other {id j : Nat} (hp : s.peer id = some p) (hj : j ≠ id) :
    (s.fiveSteps v p b).peer j = s.peer j :=
  (peer_of_same_peers (fiveSteps_aftermath ho).peers j).trans
    (setPeer_peer_other (by rwa [afterHorizon_id, peer_id hp]))

end

/-- The four states that a statement names are those of the first four steps. -/
theorem fourSteps_of_steps {v : Setup} {p : Peer} {b : HorizonBody} {o c : Int} {d : Nat}
    {place' : Int → Int} {w₁ w₂ w₃ w₄ : State} (hc : c = place o b.clearTo)
    (hplace : ∀ x, place' x = place o x)
    (hd : missedUpTo b.lastValid b.lastId p.nextId = if d ≤ 32767 then d else 0)
    (h₁ : w₁ = s.stepOffset v p o)
    (h₂ : w₂ = match b.note with
      | none => w₁
      | some (x, y) => w₁.handEntry (.loss p.id (place' x) (place' y)))
    (h₃ : w₃ = if 1 ≤ d ∧ d ≤ 32767 then (w₂.countBy .missed d).handEntry
        (.loss p.id (min (p.clearTo.getD c) c) (max (p.clearTo.getD c) c)) else w₂)
    (h₄ : w₄ = match p.face, b.covering, p.openGap with
      | some x, false, none => w₃.handEntry (.gap x p.id (p.clearTo.getD c) none)
      | some _, true, some (x, start) => w₃.closeGap x p.id start c
      | _, _, _ => w₃) : s.fourSteps v p b o = w₄ := by
  obtain rfl : place' = place o := funext hplace
  have hnote : w₂ = w₁.stepNote p.id o b.note := h₂
  have hcover : w₄ = w₃.stepCovering p b.covering c := h₄
  rw [hcover, h₃, ← reportMissed_within, ← hd, hnote, h₁, hc]
  rfl

/-- Settles O40: the sender's record by what the table holds, liveness alone before SETUP, and the five steps. -/
theorem horizonFramesRenewTheRecord : Obligations.HorizonFramesRenewTheRecord := by
  intro dt s u f h body b hp hb hm hu
  have hlive := takeHorizonFrame_for_liveness (s := s.frameOver dt) (h := h) hm
  rw [← hu] at hlive
  refine ⟨fun hnone hfull => ?_, fun hnone hroom => ?_, fun p hpeer => ?_,
    fun hun => exec_command_hands hp (hlive (.inl (congrArg Mode.configured hun)) body),
    fun v p o c hv hconf hpeer ho hc => ?_⟩
  · have hover : u = (s.frameOver dt).setFlag .peerOverflow :=
      hu.trans ((ensurePeer_of_unknown (s := s.frameOver dt) hnone).trans (if_neg (not_lt.mpr hfull)))
    exact exec_command_hands hp ((hlive (.inr (by rw [hover]; exact hnone)) body).trans hover)
  · have hadd := (ensurePeer_of_unknown (s := s.frameOver dt) hnone).trans (if_pos hroom)
    rw [hu, hadd]
    exact addPeer_peer_self (s := s.frameOver dt) (p := newPeer h.sender none _ _) hnone
  · rw [hu, ensurePeer_of_known (s := s.frameOver dt) hpeer]
    exact hear_peer_self hpeer
  · obtain ⟨ps, fs, hfoot⟩ := ensurePeer_footprint (s.frameOver dt) h.sender
    rw [← hu] at hfoot
    have hpos : o = u.travel.position - b.stamp := by rw [ho, hfoot]; rfl
    have hhor : u.hz.horizon = s.hz.horizon := by rw [hfoot]; rfl
    have hown : u.hz.ownClearTo = s.hz.ownClearTo := by rw [hfoot]; rfl
    have hcount : u.counter .slip = s.counter .slip := by rw [hfoot]; rfl
    have htaken : State.takeHorizonFrame h body (s.frameOver dt) = u.fiveSteps v p b := by
      rw [hu] at hpeer
      rw [takeHorizonFrame_of_configured (s := s.frameOver dt) hv hconf hpeer, ← hu, hb]
    have hself := fiveSteps_peer_self (v := v) hpos hpeer
    refine ⟨u.fiveSteps v p b, exec_command_hands hp htaken, fiveSteps_writes hpos, ?_,
      fun i hi => fiveSteps_peer_other hpos hpeer hi, ?_, ?_, ?_⟩
    · have hafter : p.afterHorizon b o = { p with
          state := .live, offset := some o, clearTo := some c, covering := b.covering
          nextId := some (expectFrom b.lastValid b.lastId), openGap := p.gapAfter b.covering c } := by
        rw [hc]
        rfl
      rw [hself, hafter, gapAfter_eq]
      rfl
    · rw [fiveSteps_horizon hpos, (fiveSteps_aftermath (v := v) (p := p) hpos).peers, ← hhor, ← hown]
      rfl
    · rw [fiveSteps_slip hpos, ← hcount]
      cases hoff : p.offset with
      | none => exact stepOffset_slip_first hoff
      | some k => exact stepOffset_slip hoff
    · rintro place' d w₁ w₂ w₃ w₄ w₅ hplace hd h₁ h₂ h₃ h₄ ⟨q, hq, h₅⟩
      obtain rfl : p.afterHorizon b o = q := Option.some.inj (hself.symm.trans hq)
      rw [← peer_id hpeer] at h₂ h₃ h₄
      have hfour : u.fourSteps v p b o = w₄ := fourSteps_of_steps hc hplace (missedUpTo_eq hd)
        (h₁.trans (if_congr slips_iff rfl rfl).symm) h₂ h₃ h₄
      rw [fiveSteps_eq u v p b hpos, hfour, ← h₅]

end Sys2Proof.Machine
end

section
/-! SUPPORT. The record unit: what each of its operations makes of pending list, overflow range and strand record.
A full record makes room at its oldest end, an entry takes its place by the order of R131, a merge keeps the four
keys of every entry, and an eviction keeps what reaches the oldest billet's head. -/

namespace Sys2Proof.Machine

/-! ### Lists in order -/

theorem InOrder.sublist {l l' : List Entry} (h : InOrder l) (k : l'.Sublist l) : InOrder l' :=
  List.Pairwise.sublist k h

/-- The four keys of R131 together. -/
def Entry.keys (e : Entry) : Int × Nat × Nat × Int := (e.start, e.origin, e.kindRank, e.lastKey)

/-- A list that has the keys of one in order is in order. -/
theorem InOrder.of_keys {l l' : List Entry} (h : InOrder l) (k : l'.map Entry.keys = l.map Entry.keys) :
    InOrder l' := by
  have hkeys : ∀ {a a' b b' : Entry}, a.keys = a'.keys → b.keys = b'.keys →
      b.before a = b'.before a' := by
    intro a a' b b' ha hb
    simp only [Entry.keys, Prod.mk.injEq] at ha hb
    simp only [Entry.before, ha, hb]
  induction l generalizing l' with
  | nil =>
    rw [List.map_eq_nil_iff.mp k]
    exact h
  | cons x l ih =>
    obtain ⟨x', rest, rfl, hx, hrest⟩ := List.map_eq_cons_iff.mp k
    obtain ⟨hhead, htail⟩ := List.pairwise_cons.mp h
    refine List.pairwise_cons.mpr ⟨fun y hy => ?_, ih htail hrest⟩
    obtain ⟨z, hz, hzy⟩ := List.mem_map.mp (hrest ▸ List.mem_map_of_mem hy)
    rw [hkeys hx hzy.symm]
    exact hhead z hz

theorem insertEntry_perm (e : Entry) (l : List Entry) : (insertEntry e l).Perm (e :: l) := by
  induction l with
  | nil => exact .refl _
  | cons x l ih =>
    unfold insertEntry
    split
    · exact .refl _
    · exact (ih.cons x).trans (.swap e x l)

theorem sublist_insertEntry (e : Entry) (l : List Entry) : l.Sublist (insertEntry e l) := by
  induction l with
  | nil => exact List.nil_sublist _
  | cons x l ih =>
    unfold insertEntry
    split
    · exact List.sublist_cons_self e _
    · exact ih.cons_cons x

/-! ### The full record (R137) -/

/-- What a record holds once room is made for one entry. -/
def roomIn (entries : List Entry) : List Entry :=
  if entries.length < 256 then entries else entries.tail

theorem roomIn_sublist (entries : List Entry) : (roomIn entries).Sublist entries := by
  unfold roomIn
  split
  · exact .refl _
  · exact List.tail_sublist entries

theorem makeRoom_of_room {s : State} (h : s.record.entries.length < 256) : s.makeRoom = s := by
  unfold State.makeRoom
  split
  · rfl
  · exact if_pos h

/-- A full record loses its oldest entry, which is counted and reported (R137, R138). -/
theorem makeRoom_of_full {s : State} (h : 256 ≤ s.record.entries.length) :
    ∃ oldest ∈ s.record.entries, s.makeRoom
      = ({ s with record := { s.record with entries := s.record.entries.tail } }.count
          .recordEvict).reportRemoval oldest := by
  unfold State.makeRoom
  split
  · rename_i he
    rw [he] at h
    exact absurd h (by decide)
  · rename_i oldest rest he
    refine ⟨oldest, he ▸ List.mem_cons_self, ?_⟩
    rw [if_neg (show ¬ s.record.entries.length < Config.recordLimit from not_lt.mpr h), he]
    rfl

theorem makeRoom_record (s : State) :
    s.makeRoom.record = { s.record with entries := roomIn s.record.entries } := by
  unfold roomIn
  split
  · rename_i h
    rw [makeRoom_of_room h]
  · rename_i h
    obtain ⟨oldest, -, e⟩ := makeRoom_of_full (not_lt.mp h)
    rw [e]
    rfl

theorem enterNewest_record (s : State) (e : Entry) :
    (s.enterNewest e).record = { s.record with entries := roomIn s.record.entries ++ [e] } := by
  unfold State.enterNewest
  dsimp only
  rw [makeRoom_record]

theorem enterLate_record (s : State) (e : Entry) :
    (s.enterLate e).record
      = { s.record with entries := insertEntry e (roomIn s.record.entries) } := by
  unfold State.enterLate
  dsimp only
  rw [makeRoom_record]

theorem enterNewest_of_room {s : State} (h : s.record.entries.length < 256) (e : Entry) :
    s.enterNewest e = { s with record := { s.record with entries := s.record.entries ++ [e] } } := by
  unfold State.enterNewest
  rw [makeRoom_of_room h]

theorem enterLate_of_room {s : State} (h : s.record.entries.length < 256) (e : Entry) :
    s.enterLate e
      = { s with record := { s.record with entries := insertEntry e s.record.entries } } := by
  unfold State.enterLate
  rw [makeRoom_of_room h]

/-! ### Eviction (R147) -/

theorem evict_of_no_billet {s : State} (h : s.billet.billets = []) : s.evict = s := by
  unfold State.evict
  rw [h]

theorem evict_of_oldest {s : State} {oldest : Billet} {rest : List Billet}
    (h : s.billet.billets = oldest :: rest) : s.evict = { s with record := { s.record with
      entries := s.record.entries.filter fun e => oldest.head ≤ e.stop.getD e.start } } := by
  have hkeep : (fun e : Entry => !e.whollyBefore oldest.head)
      = fun e => decide (oldest.head ≤ e.stop.getD e.start) := by
    funext e
    simp [Entry.whollyBefore, ← decide_not]
  unfold State.evict
  rw [h, ← hkeep]

/-- An eviction writes the strand record alone, and removes from it. -/
theorem evict_record (s : State) : ∃ es : List Entry, s.evict.record = { s.record with entries := es }
    ∧ es.Sublist s.record.entries := by
  cases h : s.billet.billets with
  | nil => exact ⟨s.record.entries, by rw [evict_of_no_billet h], .refl _⟩
  | cons oldest rest =>
    rw [evict_of_oldest h]
    exact ⟨_, rfl, List.filter_sublist⟩

/-! ### Corner merge (R142, R143) -/

/-- A merge with a candidate that starts no later keeps the candidate's keys. -/
theorem Finding.merge_keys {c f : Finding} (h : c.start ≤ f.start) :
    (Entry.finding (c.merge f)).keys = (Entry.finding c).keys := by
  simp [Entry.keys, Entry.start, Entry.origin, Entry.kindRank, Entry.lastKey, Finding.merge, h]

/-- A finding that starts no earlier than any entry merges into a record with the same keys. -/
theorem mergeFirst_keys {f : Finding} {tolerance : Nat} {l : List Entry} {r : List Entry × Finding}
    (h : mergeFirst f tolerance l = some r) (hl : ∀ x ∈ l, x.start ≤ f.start) :
    r.1.map Entry.keys = l.map Entry.keys := by
  induction l generalizing r with
  | nil => exact nomatch h
  | cons e rest ih =>
    have hrest : ∀ x ∈ rest, x.start ≤ f.start := fun x hx => hl x (List.mem_cons_of_mem _ hx)
    have hskip : ∀ {e : Entry}, (mergeFirst f tolerance rest).map (fun (l, m) => (e :: l, m)) = some r →
        r.1.map Entry.keys = (e :: rest).map Entry.keys := fun h => by
      obtain ⟨q, hq, rfl⟩ := Option.map_eq_some_iff.mp h
      simp [ih hq hrest]
    cases e with
    | finding c =>
      unfold mergeFirst at h
      split at h
      · injection h with h
        rw [← h, List.map_cons, List.map_cons, Finding.merge_keys (hl _ List.mem_cons_self)]
      · exact hskip h
    | loss o a b => exact hskip h
    | gap g o a b => exact hskip h

/-! ### Closing a GAP (R146) -/

theorem Entry.isOpenGap_iff {face subject : Nat} {start : Int} {e : Entry} :
    e.isOpenGap face subject start = true ↔ e = .gap face subject start none := by
  cases e with
  | finding f => simp [Entry.isOpenGap]
  | loss o a b => simp [Entry.isOpenGap]
  | gap f o a stop => cases stop <;> simp [Entry.isOpenGap, and_assoc]

theorem any_isOpenGap_iff {face subject : Nat} {start : Int} {l : List Entry} :
    l.any (Entry.isOpenGap face subject start) = true ↔ .gap face subject start none ∈ l := by
  simp [List.any_eq_true, Entry.isOpenGap_iff]

theorem closeFirst_of_not_mem {face subject : Nat} {start : Int} {l : List Entry}
    (h : .gap face subject start none ∉ l) (stop : Int) : closeFirst face subject start stop l = l := by
  induction l with
  | nil => rfl
  | cons e l ih =>
    obtain ⟨he, hl⟩ := not_or.mp (mt List.mem_cons.mpr h)
    unfold closeFirst
    rw [if_neg fun k => he (Entry.isOpenGap_iff.mp k).symm, ih hl]

theorem closeFirst_of_first {face subject : Nat} {start : Int} {pre : List Entry}
    (h : .gap face subject start none ∉ pre) (stop : Int) (post : List Entry) :
    closeFirst face subject start stop (pre ++ .gap face subject start none :: post)
      = pre ++ .gap face subject start (some (max start stop)) :: post := by
  induction pre with
  | nil => exact if_pos (Entry.isOpenGap_iff.mpr rfl)
  | cons e pre ih =>
    obtain ⟨he, hpre⟩ := not_or.mp (mt List.mem_cons.mpr h)
    rw [List.cons_append, closeFirst, if_neg fun k => he (Entry.isOpenGap_iff.mp k).symm, ih hpre]
    rfl

theorem closeGap_of_pending {s : State} {face subject : Nat} {start : Int}
    (h : .gap face subject start none ∈ s.record.pending) (stop : Int) :
    s.closeGap face subject start stop = { s with record := { s.record with
      pending := closeFirst face subject start stop s.record.pending } } :=
  if_pos (any_isOpenGap_iff.mpr h)

theorem closeGap_of_not_pending {s : State} {face subject : Nat} {start : Int}
    (h : .gap face subject start none ∉ s.record.pending) (stop : Int) :
    s.closeGap face subject start stop = { s with record := { s.record with
      entries := closeFirst face subject start stop s.record.entries } } :=
  if_neg fun k => h (any_isOpenGap_iff.mp k)

/-! ### Arrival (R132 to R136) -/

theorem handEntry_of_copy {s : State} {e : Entry} (h : s.isSecondCopy e = true) :
    s.handEntry e = if e.start < s.hz.horizon then s.count .late else s := if_pos h

theorem handEntry_of_late {s : State} {e : Entry} (hc : s.isSecondCopy e = false)
    (h : e.start < s.hz.horizon) : s.handEntry e = s.takeLate e := by
  unfold State.handEntry
  rw [hc, if_neg nofun, if_pos h]

theorem handEntry_of_timely {s : State} {e : Entry} (hc : s.isSecondCopy e = false)
    (h : s.hz.horizon ≤ e.start) : s.handEntry e = s.toPending e := by
  unfold State.handEntry
  rw [hc, if_neg nofun, if_neg (not_lt.mpr h)]

theorem toPending_of_room {s : State} (h : s.record.pending.length < 64) (e : Entry) :
    s.toPending e
      = { s with record := { s.record with pending := insertEntry e s.record.pending } } := if_pos h

theorem toPending_of_full {s : State} (h : 64 ≤ s.record.pending.length) (e : Entry) :
    s.toPending e = { s with record := { s.record with
      overflow := some (widen s.record.overflow e) } }.count .pendingOverflow := if_neg (not_lt.mpr h)

/-- An entry as it enters by the late path: a FINDING takes the late mark (R136). -/
def Entry.asLate : Entry → Entry
  | .finding f => .finding { f with late := true }
  | .loss o a b => .loss o a b
  | .gap f o a b => .gap f o a b

@[simp] theorem Entry.asLate_start (e : Entry) : e.asLate.start = e.start := by
  cases e <;> rfl

/-- What the marker unit is handed of a late entry (R148). -/
def State.feedLate (s : State) : Entry → State
  | .finding f => s.feedMarker { f with late := true }
  | .loss _ _ _ => s
  | .gap _ _ _ _ => s

theorem takeLate_eq (s : State) (e : Entry) :
    s.takeLate e = (((s.count .late).enterLate e.asLate).feedLate e).evict := by
  cases e <;> rfl

theorem feedLate_footprint (s : State) (e : Entry) :
    ∃ m d, s.feedLate e = { s with marker := m, diag := d } := by
  cases e with
  | finding f => exact s.feedMarker_footprint _
  | loss o a b => exact ⟨s.marker, s.diag, rfl⟩
  | gap f o a b => exact ⟨s.marker, s.diag, rfl⟩

theorem feedLate_record (s : State) (e : Entry) : (s.feedLate e).record = s.record := by
  obtain ⟨m, d, h⟩ := feedLate_footprint s e
  rw [h]

/-- The late path writes, of the record unit, the strand record alone: the entry takes its place there, and what
the eviction test removes goes (R136, R147). -/
theorem takeLate_record (s : State) (e : Entry) : ∃ es : List Entry, (s.takeLate e).record = { s.record with
    entries := es } ∧ es.Sublist (insertEntry e.asLate (roomIn s.record.entries)) := by
  obtain ⟨es, hes, hsub⟩ := evict_record (((s.count .late).enterLate e.asLate).feedLate e)
  rw [feedLate_record, enterLate_record] at hes hsub
  exact ⟨es, by rw [takeLate_eq, hes]; rfl, hsub⟩

end Sys2Proof.Machine
end

section
/-! SUPPORT. The billet table: which billet a full table retires, the new billet of a cut, and what of the record unit
a cut can write. -/

namespace Sys2Proof.Machine

/-! ### Retirement (R156) -/

theorem retire_of_room {s : State} (h : s.billet.billets.length < 16) : s.retire = s := by
  unfold State.retire
  split
  · rfl
  · exact if_pos h

section
variable {s : State} {oldest : Billet} {rest : List Billet}
  (hb : s.billet.billets = oldest :: rest) (hfull : 16 ≤ s.billet.billets.length)
include hb hfull

/-- A REPORTED oldest billet goes. -/
theorem retire_of_oldest_reported (h : oldest.state = .reported) :
    s.retire = { s with billet := { s.billet with billets := rest } }.evict := by
  unfold State.retire
  rw [hb] at hfull ⊢
  dsimp only
  rw [if_neg (show ¬ (oldest :: rest).length < Config.billetLimit from not_lt.mpr hfull), if_pos h]

/-- Where the oldest is not REPORTED, the first REPORTED one but the newest goes. -/
theorem retire_of_younger_reported (h : oldest.state ≠ .reported)
    (hy : ∃ b ∈ rest.dropLast, b.state = .reported) :
    s.retire = { s with billet := { s.billet with
      billets := oldest :: rest.eraseP fun b => b.state == .reported } } := by
  obtain ⟨b, hmem, hrep⟩ := hy
  have hany : (rest.dropLast.any fun b => b.state == .reported) = true :=
    List.any_eq_true.mpr ⟨b, hmem, beq_iff_eq.mpr hrep⟩
  unfold State.retire
  rw [hb] at hfull ⊢
  dsimp only
  rw [if_neg (show ¬ (oldest :: rest).length < Config.billetLimit from not_lt.mpr hfull), if_neg h,
    if_pos hany]

/-- Where none but the newest is REPORTED, the oldest goes and its verdict is lost. -/
theorem retire_of_none_reported (h : oldest.state ≠ .reported)
    (hy : ∀ b ∈ rest.dropLast, b.state ≠ .reported) :
    s.retire = ({ s with billet := { s.billet with billets := rest } }.count .verdictLost).evict := by
  have hany : ¬ (rest.dropLast.any fun b => b.state == .reported) = true := fun k =>
    have ⟨b, hmem, hrep⟩ := List.any_eq_true.mp k
    hy b hmem (beq_iff_eq.mp hrep)
  unfold State.retire
  rw [hb] at hfull ⊢
  dsimp only
  rw [if_neg (show ¬ (oldest :: rest).length < Config.billetLimit from not_lt.mpr hfull), if_neg h,
    if_neg hany]

end

/-! ### A new cut (R157, R158) -/

/-- The table closed and opened by a new cut, and the own cut counter of a received one. -/
def State.withCut (s : State) (v : Setup) (received : Bool) (number : Nat) (position : Int) : State :=
  { s with
    billet := { s.billet with
      billets := cutTable number position s.hz.horizon s.billet.floor s.billet.billets }
    travel := { s.travel with
      cutCounter := if received && v.cutReporting then some number else s.travel.cutCounter } }

theorem newCut_eq (s : State) (v : Setup) (received : Bool) (number : Nat) (position : Int) :
    s.newCut v received number position = if s.retire.billet.billets.isEmpty
      then (s.retire.withCut v received number position).evict
      else (s.retire.withCut v received number position).verdictDecision v := rfl

/-! ### What a cut can write of the record unit -/

theorem retire_record (s : State) : ∃ es : List Entry, s.retire.record
    = { s.record with entries := es } ∧ es.Sublist s.record.entries := by
  unfold State.retire
  split
  · exact ⟨_, rfl, .refl _⟩
  · split
    · exact ⟨_, rfl, .refl _⟩
    · split
      · exact evict_record _
      · split
        · exact ⟨_, rfl, .refl _⟩
        · exact evict_record _

/-- A cut removes from the record what an eviction removes, and writes nothing else of the record unit. -/
theorem takeCut_record (s : State) (v : Setup) (received : Bool) (number : Nat) (position : Int) :
    ∃ es : List Entry, (s.takeCut v received number position).record
      = { s.record with entries := es } ∧ es.Sublist s.record.entries := by
  have hnew : ∃ es : List Entry, (s.newCut v received number position).record
      = { s.record with entries := es } ∧ es.Sublist s.record.entries := by
    obtain ⟨es, hes, hsub⟩ := retire_record s
    have hcut : (s.retire.withCut v received number position).record
        = { s.record with entries := es } := hes
    rw [newCut_eq]
    split
    · obtain ⟨es', hes', hsub'⟩ := evict_record (s.retire.withCut v received number position)
      rw [hcut] at hes' hsub'
      exact ⟨es', hes', hsub'.trans hsub⟩
    · obtain ⟨b, x, d, e⟩ := (s.retire.withCut v received number position).verdictDecision_footprint v
      rw [e]
      exact ⟨es, hcut, hsub⟩
  unfold State.takeCut
  split
  · split <;> exact ⟨_, rfl, .refl _⟩
  · split
    · exact ⟨_, rfl, .refl _⟩
    · split
      · exact ⟨_, rfl, .refl _⟩
      · exact hnew

end Sys2Proof.Machine
end

section
/-! SUPPORT. Pending list and strand record in order, either side of the strand horizon: a commit moves what starts
below the new horizon to the newest end of the record (O50), and every step keeps the order (O53). -/

namespace Sys2Proof.Machine

/-! ### The record unit in order -/

/-- Both lists in the order of R131, pending list and overflow range from `h` on, the record below it. -/
structure RecordUnit.Ordered (r : RecordUnit) (h : Int) : Prop where
  pending : InOrder r.pending
  entries : InOrder r.entries
  above : ∀ e ∈ r.pending, h ≤ e.start
  below : ∀ e ∈ r.entries, e.start < h
  overflow : ∀ x ∈ r.overflow, h ≤ x.1

theorem recordInv_iff (s : State) : RecordInv s ↔ s.record.Ordered s.hz.horizon :=
  ⟨fun ⟨p, e, a, b, o⟩ => ⟨p, e, a, b, o⟩, fun ⟨p, e, a, b, o⟩ => ⟨p, e, a, b, o⟩⟩

/-- A list of entries in order, all of which start below `h`. -/
structure OrderedBelow (h : Int) (l : List Entry) : Prop where
  inOrder : InOrder l
  below : ∀ e ∈ l, e.start < h

theorem OrderedBelow.sublist {h : Int} {l l' : List Entry} (k : OrderedBelow h l)
    (hs : l'.Sublist l) : OrderedBelow h l' :=
  ⟨k.inOrder.sublist hs, fun e he => k.below e (hs.subset he)⟩

theorem OrderedBelow.of_keys {h : Int} {l l' : List Entry} (k : OrderedBelow h l)
    (hk : l'.map Entry.keys = l.map Entry.keys) : OrderedBelow h l' where
  inOrder := k.inOrder.of_keys hk
  below e he := by
    obtain ⟨x, hx, hxe⟩ := List.mem_map.mp (hk ▸ List.mem_map_of_mem he)
    have hstart : x.start = e.start := congrArg Prod.fst hxe
    exact hstart ▸ k.below x hx

theorem RecordUnit.Ordered.orderedBelow {r : RecordUnit} {h : Int} (k : r.Ordered h) :
    OrderedBelow h r.entries := ⟨k.entries, k.below⟩

/-- A record unit whose strand record alone changed. -/
theorem RecordUnit.Ordered.with_entries {r : RecordUnit} {h : Int} (k : r.Ordered h) {l : List Entry}
    (hl : OrderedBelow h l) : RecordUnit.Ordered { r with entries := l } h :=
  { k with entries := hl.inOrder, below := hl.below }

/-! ### Commit (R139 to R141) -/

/-- The state from which a rise to `h` commits: what it commits has left pending list and overflow range. -/
def State.takenBelow (s : State) (h : Int) : State :=
  { s with record := { s.record with
    pending := s.record.pending.filter fun e => !(e.start < h)
    overflow := if (s.overflowBelow h).isSome then none else s.record.overflow } }

theorem commitBelow_eq (v : Setup) (h : Int) (s : State) : s.commitBelow v h
    = ((s.committing h).foldl (State.commitEntry v) (s.takenBelow h)).evict := rfl

theorem enterNewest_orderedBelow {h : Int} {s : State} {e : Entry} {rest : List Entry}
    (k : OrderedBelow h (s.record.entries ++ e :: rest)) :
    OrderedBelow h ((s.enterNewest e).record.entries ++ rest) := by
  rw [enterNewest_record, List.append_assoc]
  exact k.sublist ((roomIn_sublist _).append_right _)

/-- While what is still to commit follows the record in order, an entry that is committed, appended or merged, leaves
the rest following it in order (R141, R143). -/
theorem commitEntry_orderedBelow {h : Int} {v : Setup} {s : State} {e : Entry} {rest : List Entry}
    (k : OrderedBelow h (s.record.entries ++ e :: rest)) :
    OrderedBelow h ((State.commitEntry v s e).record.entries ++ rest) := by
  cases e with
  | finding f =>
    unfold State.commitEntry
    dsimp only
    split
    · rename_i entries m hm
      have hle : ∀ x ∈ s.record.entries, x.start ≤ f.start := fun x hx =>
        Entry.start_le_of_notAfter
          ((List.pairwise_append.mp k.inOrder).2.2 x hx (.finding f) List.mem_cons_self)
      have hkeys : (entries ++ rest).map Entry.keys = (s.record.entries ++ rest).map Entry.keys := by
        rw [List.map_append, List.map_append, mergeFirst_keys hm hle]
      rw [feedMarker_record]
      exact (k.sublist ((List.sublist_cons_self _ rest).append_left _)).of_keys hkeys
    · rw [feedMarker_record]
      exact enterNewest_orderedBelow k
  | loss o a b => exact enterNewest_orderedBelow k
  | gap f o a b => exact enterNewest_orderedBelow k

theorem commitAll_orderedBelow {h : Int} {v : Setup} (es : List Entry) {s : State}
    (k : OrderedBelow h (s.record.entries ++ es)) :
    OrderedBelow h (es.foldl (State.commitEntry v) s).record.entries := by
  induction es generalizing s with
  | nil => rwa [List.append_nil] at k
  | cons e rest ih => exact ih (commitEntry_orderedBelow k)

theorem commitEntry_overflow (v : Setup) (s : State) (e : Entry) :
    (State.commitEntry v s e).record.overflow = s.record.overflow := by
  have hnew : ∀ e, (s.enterNewest e).record.overflow = s.record.overflow := fun e => by
    rw [enterNewest_record]
  cases e with
  | finding f =>
    unfold State.commitEntry
    dsimp only
    split
    · rw [feedMarker_record]
    · rw [feedMarker_record, hnew]
  | loss o a b => exact hnew _
  | gap f o a b => exact hnew _

theorem commitAll_overflow (v : Setup) (es : List Entry) (s : State) :
    (es.foldl (State.commitEntry v) s).record.overflow = s.record.overflow := by
  induction es generalizing s with
  | nil => rfl
  | cons e rest ih => exact (ih _).trans (commitEntry_overflow v s e)

/-- An overflow range that starts below `h` goes with the commit, another stays (R140). -/
theorem commitBelow_overflow (v : Setup) (h : Int) (s : State) :
    (s.commitBelow v h).record.overflow
      = if (s.overflowBelow h).isSome then none else s.record.overflow := by
  obtain ⟨es, he, -⟩ := evict_record ((s.committing h).foldl (State.commitEntry v) (s.takenBelow h))
  rw [commitBelow_eq, he]
  exact commitAll_overflow v _ _

theorem mem_overflow_of_commitBelow {v : Setup} {h : Int} {s : State} {r : Int × Int}
    (hr : r ∈ (s.commitBelow v h).record.overflow) : h ≤ r.1 ∧ s.record.overflow = some r := by
  rw [commitBelow_overflow] at hr
  split at hr
  · exact nomatch hr
  · rename_i hbelow
    refine ⟨not_lt.mp fun hlt => hbelow ?_, hr⟩
    unfold State.overflowBelow
    rw [show s.record.overflow = some r from hr]
    simp [hlt]

/-- What a rise commits is in order and lies between the strand horizons (R139, R140). -/
theorem committing_orderedBelow {s : State} {k : Int} (hs : s.record.Ordered k) (h : Int) :
    OrderedBelow h (s.committing h) ∧ ∀ e ∈ s.committing h, k ≤ e.start := by
  have hin : InOrder (s.record.pending.filter fun e => e.start < h) := hs.pending.filter _
  have hmem : ∀ e ∈ s.record.pending.filter (fun e => e.start < h), k ≤ e.start ∧ e.start < h := by
    intro e he
    obtain ⟨hp, hlt⟩ := List.mem_filter.mp he
    exact ⟨hs.above e hp, of_decide_eq_true hlt⟩
  unfold State.committing State.overflowBelow
  cases hover : s.record.overflow with
  | none => exact ⟨⟨hin, fun e he => (hmem e he).2⟩, fun e he => (hmem e he).1⟩
  | some r =>
    have hr : k ≤ r.1 := hs.overflow r hover
    by_cases hlt : r.1 < h
    · simp only [hlt, if_true]
      refine ⟨⟨hin.insert, fun e he => ?_⟩, fun e he => ?_⟩ <;>
        obtain rfl | he := mem_insertEntry.mp he
      · exact hlt
      · exact (hmem e he).2
      · exact hr
      · exact (hmem e he).1
    · simp only [hlt, if_false]
      exact ⟨⟨hin, fun e he => (hmem e he).2⟩, fun e he => (hmem e he).1⟩

/-- After a rise from `k` to `h` the record is in order and below `h` (R137, R141). -/
theorem commitBelow_orderedBelow {s : State} {k h : Int} (hs : s.record.Ordered k) (hk : k ≤ h)
    (v : Setup) : OrderedBelow h (s.commitBelow v h).record.entries := by
  obtain ⟨hcommit, hfrom⟩ := committing_orderedBelow hs h
  have hfollow : OrderedBelow h (s.record.entries ++ s.committing h) := by
    refine ⟨List.pairwise_append.mpr ⟨hs.entries, hcommit.inOrder, fun a ha b hb => ?_⟩, fun e he => ?_⟩
    · exact Entry.notAfter_of_start_lt ((hs.below a ha).trans_le (hfrom b hb))
    · obtain he | he := List.mem_append.mp he
      · exact (hs.below e he).trans_le hk
      · exact hcommit.below e he
  have hall := commitAll_orderedBelow (v := v) (s := s.takenBelow h) (s.committing h) hfollow
  obtain ⟨es, he, hsub⟩ := evict_record ((s.committing h).foldl (State.commitEntry v) (s.takenBelow h))
  rw [commitBelow_eq, he]
  exact hall.sublist hsub

theorem commitBelow_pending_from (v : Setup) (h : Int) (s : State) :
    (s.commitBelow v h).record.pending = s.record.pending.filter fun e => h ≤ e.start := by
  have hnot : (fun e : Entry => !decide (e.start < h)) = fun e => decide (h ≤ e.start) := by
    funext e
    simp [← decide_not]
  rw [commitBelow_pending, hnot]

/-- A rise keeps the record unit in order, either side of the new strand horizon. -/
theorem commitBelow_ordered {s : State} {k h : Int} (hs : s.record.Ordered k) (hk : k ≤ h)
    (v : Setup) : (s.commitBelow v h).record.Ordered h where
  pending := by
    rw [commitBelow_pending_from]
    exact hs.pending.filter _
  entries := (commitBelow_orderedBelow hs hk v).inOrder
  above e he := by
    rw [commitBelow_pending_from] at he
    exact of_decide_eq_true (List.mem_filter.mp he).2
  below := (commitBelow_orderedBelow hs hk v).below
  overflow r hr := (mem_overflow_of_commitBelow hr).1

/-! ### A rise that only appends (R141) -/

/-- Entries that are no findings are appended one by one where the record has room for all. -/
theorem commitAll_appends {v : Setup} {es : List Entry} {s : State}
    (hes : ∀ e ∈ es, ∀ f, e ≠ .finding f) (hroom : s.record.entries.length + es.length ≤ 256) :
    es.foldl (State.commitEntry v) s
      = { s with record := { s.record with entries := s.record.entries ++ es } } := by
  induction es generalizing s with
  | nil => simp
  | cons e rest ih =>
    rw [List.length_cons] at hroom
    have hone : State.commitEntry v s e
        = { s with record := { s.record with entries := s.record.entries ++ [e] } } := by
      rw [← enterNewest_of_room (by omega)]
      cases e with
      | finding f => exact absurd rfl (hes _ List.mem_cons_self f)
      | loss o a b => rfl
      | gap f o a b => rfl
    rw [List.foldl_cons, hone, ih (fun x hx => hes x (List.mem_cons_of_mem _ hx))]
    · simp
    · simp only [List.length_append, List.length_cons, List.length_nil]
      omega

/-- A rise with no billet, no overflow range, no finding below it and room in the record (R139, R141). -/
theorem commitBelow_appends {s : State} (hb : s.billet.billets = []) (ho : s.record.overflow = none)
    (hes : ∀ e ∈ s.record.pending, ∀ f, e ≠ .finding f)
    (hroom : s.record.entries.length + s.record.pending.length ≤ 256) (v : Setup) (h : Int) :
    s.commitBelow v h = { s with record := { s.record with
      pending := s.record.pending.filter fun e => h ≤ e.start
      entries := s.record.entries ++ s.record.pending.filter fun e => e.start < h } } := by
  have hover : s.overflowBelow h = none := by
    unfold State.overflowBelow
    rw [ho]
  have hcommit : s.committing h = s.record.pending.filter fun e => e.start < h := by
    unfold State.committing
    rw [hover]
  have hpend : (s.takenBelow h).record.pending = s.record.pending.filter fun e => h ≤ e.start :=
    (commitBelow_pending v h s).symm.trans (commitBelow_pending_from v h s)
  have htaken : s.takenBelow h = { s with record := { s.record with
      pending := s.record.pending.filter fun e => h ≤ e.start } } := by
    rw [← hpend]
    unfold State.takenBelow
    rw [hover]
    rfl
  have hlen := List.length_filter_le (fun e : Entry => decide (e.start < h)) s.record.pending
  have hroom' : (s.takenBelow h).record.entries.length
      + (s.record.pending.filter fun e => e.start < h).length ≤ 256 :=
    (Nat.add_le_add_left hlen _).trans hroom
  rw [commitBelow_eq, hcommit, commitAll_appends (fun e he => hes e (List.mem_filter.mp he).1) hroom',
    htaken]
  exact evict_of_no_billet hb

/-- Settles O50, by what a commit makes of pending list, overflow range and record. -/
theorem risesCommitInOrder : Obligations.RisesCommitInOrder := by
  intro s v h hs hh
  have hrise := commitBelow_ordered ((recordInv_iff s).mp hs) hh v
  exact ⟨commitBelow_pending_from v h s, fun r hr => mem_overflow_of_commitBelow hr, hrise.entries,
    hrise.below, fun hb ho hes hroom => commitBelow_appends hb ho hes hroom v h⟩

/-! ### Every operation on the ledger keeps the order -/

theorem recomputeHorizon_recordInv {s : State} (hs : RecordInv s) (v : Setup) :
    RecordInv (s.recomputeHorizon v) := by
  unfold State.recomputeHorizon
  split
  · rename_i hrise
    set u := State.commitBelow v s.newHorizon { s with hz := { s.hz with horizon := s.newHorizon } }
      with hu
    have hord : u.record.Ordered s.newHorizon :=
      commitBelow_ordered (s := { s with hz := { s.hz with horizon := s.newHorizon } })
        ((recordInv_iff s).mp hs) hrise.le v
    have hhor : u.hz.horizon = s.newHorizon := by
      obtain ⟨r, b, m, d, e⟩ := State.commitBelow_footprint v s.newHorizon
        { s with hz := { s.hz with horizon := s.newHorizon } }
      rw [hu, e]
    obtain ⟨b, x, d, e⟩ := u.billetRise_footprint v
    rw [e, recordInv_iff]
    exact hhor.symm ▸ hord
  · exact hs

/-- An entry that waits joins the pending list or widens the overflow range, both from the strand horizon on. -/
theorem toPending_ordered {s : State} {h : Int} (hs : s.record.Ordered h) {e : Entry}
    (he : h ≤ e.start) : (s.toPending e).record.Ordered h := by
  by_cases hroom : s.record.pending.length < 64
  · rw [toPending_of_room hroom]
    refine { hs with pending := hs.pending.insert, above := fun x hx => ?_ }
    obtain rfl | hx := mem_insertEntry.mp hx
    · exact he
    · exact hs.above x hx
  · rw [toPending_of_full (not_lt.mp hroom)]
    refine { hs with overflow := ?_ }
    rintro x ⟨rfl⟩
    unfold widen
    split
    · exact he
    · rename_i a b hr
      exact le_min (hs.overflow (a, b) hr) he

/-- A late entry takes its place in the record, below the strand horizon (R136). -/
theorem takeLate_ordered {s : State} {h : Int} (hs : s.record.Ordered h) {e : Entry}
    (he : e.start < h) : (s.takeLate e).record.Ordered h := by
  have hroom : OrderedBelow h (roomIn s.record.entries) :=
    hs.orderedBelow.sublist (roomIn_sublist _)
  have hins : OrderedBelow h (insertEntry e.asLate (roomIn s.record.entries)) := by
    refine ⟨hroom.inOrder.insert, fun x hx => ?_⟩
    obtain rfl | hx := mem_insertEntry.mp hx
    · rwa [Entry.asLate_start]
    · exact hroom.below x hx
  obtain ⟨es, hes, hsub⟩ := takeLate_record s e
  rw [hes]
  exact hs.with_entries (hins.sublist hsub)

theorem handEntry_recordInv {s : State} (hs : RecordInv s) (e : Entry) : RecordInv (s.handEntry e) := by
  have hord := (recordInv_iff s).mp hs
  rw [recordInv_iff, handEntry_hz]
  cases hcopy : s.isSecondCopy e with
  | true =>
    rw [handEntry_of_copy hcopy]
    split <;> exact hord
  | false =>
    by_cases hlate : e.start < s.hz.horizon
    · rw [handEntry_of_late hcopy hlate]
      exact takeLate_ordered hord hlate
    · rw [handEntry_of_timely hcopy (not_lt.mp hlate)]
      exact toPending_ordered hord (not_lt.mp hlate)

theorem closeGap_recordInv {s : State} (hs : RecordInv s) (face subject : Nat) (start stop : Int) :
    RecordInv (s.closeGap face subject start stop) := by
  have hord := (recordInv_iff s).mp hs
  rw [recordInv_iff]
  by_cases hpend : .gap face subject start none ∈ s.record.pending
  · rw [closeGap_of_pending hpend]
    refine { hord with pending := hord.pending.closeFirst, above := fun x hx => ?_ }
    obtain ⟨y, hy, hstart, -⟩ := mem_closeFirst hx
    exact hstart ▸ hord.above y hy
  · rw [closeGap_of_not_pending hpend]
    refine hord.with_entries ⟨hord.entries.closeFirst, fun x hx => ?_⟩
    obtain ⟨y, hy, hstart, -⟩ := mem_closeFirst hx
    exact hstart ▸ hord.below y hy

theorem takeCut_recordInv {s : State} (hs : RecordInv s) (v : Setup) (received : Bool)
    (number : Nat) (position : Int) : RecordInv (s.takeCut v received number position) := by
  have hord := (recordInv_iff s).mp hs
  obtain ⟨es, hes, hsub⟩ := takeCut_record s v received number position
  have hhor : (s.takeCut v received number position).hz = s.hz := by
    obtain ⟨r, b, x, d, c, e⟩ := s.takeCut_footprint v received number position
    rw [e]
  rw [recordInv_iff, hes, hhor]
  exact hord.with_entries (hord.orderedBelow.sublist hsub)

theorem recordInv_ledger : LedgerRelation fun s t => RecordInv s → RecordInv t where
  refl _ := id
  after h k := h ∘ k
  elsewhere _ hh hr hs := by
    unfold RecordInv
    rw [hh, hr]
    exact hs
  clearToRises _ _ _ := id
  recomputeHorizon _ v hs := recomputeHorizon_recordInv hs v
  handEntry _ e hs := handEntry_recordInv hs e
  closeGap _ face subject start stop hs := closeGap_recordInv hs face subject start stop
  takeCut _ v received number position hs := takeCut_recordInv hs v received number position

/-- A reset ends with horizon and record unit as after power-on (R107, R151). -/
theorem endReset_recordInv (s : State) (p : Straps) (cause : ResetCause) :
    RecordInv (s.endReset p cause) := by
  have hblocks : RecordInv (s.resetBlocks p cause) := reset_recordInv
  unfold State.endReset
  dsimp only
  split
  · exact hblocks
  · obtain ⟨x, d, h⟩ := (s.resetBlocks p cause).handFrame_footprint (s.resetBlocks p cause).announce
    rw [h]
    exact hblocks

/-- Settles O53: every operation on the ledger keeps the order, and the end of a reset empties the lists. -/
theorem theRecordStaysInOrder : Obligations.TheRecordStaysInOrder := by
  intro s t hs h
  cases he : s.endsReset with
  | false => exact recordInv_ledger.step he h hs
  | true =>
    obtain ⟨u, p, cause, rfl⟩ := step_ends_reset he h
    exact endReset_recordInv u p cause

end Sys2Proof.Machine
end

section
/-! SUPPORT. Where the record unit puts an entry handed to it, and how a GAP is closed (O49). -/

namespace Sys2Proof.Machine

/-! ### What the marker unit counts (R177 to R182) -/

/-- The counters of the marker unit. -/
def markCounters : List Counter := [.markSkipped, .markLate, .markPartial]

section
variable {c : Counter} (hc : c ∉ markCounters)
include hc

theorem count_mark_counter {m : Counter} (hm : m ∈ markCounters) (s : State) :
    (s.count m).counter c = s.counter c :=
  s.count_counter_other fun e => hc (e ▸ hm)

theorem startFrom_counter (v : Setup) (before : Option Int) (q : List Mark) (s : State) :
    (startFrom v before q s).counter c = s.counter c := by
  induction q generalizing s with
  | nil => rfl
  | cons m rest ih =>
    unfold startFrom
    split
    · exact (ih _).trans (count_mark_counter hc (by decide) s)
    · split
      · split
        · exact (ih _).trans (count_mark_counter hc (by decide) s)
        · dsimp only
          split
          · rfl
          · exact count_mark_counter hc (by decide) _
      · rfl

theorem startTest_counter (s : State) (before : Option Int) :
    (s.startTest before).counter c = s.counter c := by
  unfold State.startTest
  split
  · rfl
  · split
    · rfl
    · exact startFrom_counter hc _ _ _ s

theorem markFinding_counter (s : State) (v : Setup) (f : Finding) :
    (s.markFinding v f).counter c = s.counter c := by
  unfold State.markFinding State.offerMark
  split
  · rfl
  · split
    · rfl
    · split
      · exact count_mark_counter hc (by decide) s
      · split
        · exact count_mark_counter hc (by decide) s
        · exact startTest_counter hc _ none

theorem feedMarker_counter (s : State) (f : Finding) : (s.feedMarker f).counter c = s.counter c := by
  unfold State.feedMarker
  split
  · rfl
  · split
    · exact markFinding_counter hc s _ f
    · rfl

theorem feedLate_counter (s : State) (e : Entry) : (s.feedLate e).counter c = s.counter c := by
  cases e with
  | finding f => exact feedMarker_counter hc s _
  | loss o a b => rfl
  | gap f o a b => rfl

end

/-! ### What the late path counts and keeps (R136, R137) -/

theorem evict_counter (s : State) (c : Counter) : s.evict.counter c = s.counter c := by
  obtain ⟨r, h⟩ := s.evict_footprint
  rw [h]
  rfl

theorem makeRoom_counter_other (s : State) {c : Counter} (h : .recordEvict ≠ c) :
    s.makeRoom.counter c = s.counter c := by
  by_cases hroom : s.record.entries.length < 256
  · rw [makeRoom_of_room hroom]
  · obtain ⟨oldest, -, e⟩ := makeRoom_of_full (not_lt.mp hroom)
    rw [e]
    exact State.count_counter_other _ h

theorem makeRoom_recordEvict (s : State) : s.makeRoom.counter .recordEvict
    = if s.record.entries.length < 256 then s.counter .recordEvict
      else min 65535 (s.counter .recordEvict + 1) := by
  split
  · rename_i hroom
    rw [makeRoom_of_room hroom]
  · rename_i hroom
    obtain ⟨oldest, -, e⟩ := makeRoom_of_full (not_lt.mp hroom)
    rw [e]
    exact State.count_counter_self _ _

/-- A removal marks billets TRUNCATED and moves none (R138). -/
theorem makeRoom_heads (s : State) :
    s.makeRoom.billet.billets.map Billet.head = s.billet.billets.map Billet.head := by
  by_cases hroom : s.record.entries.length < 256
  · rw [makeRoom_of_room hroom]
  · obtain ⟨oldest, -, e⟩ := makeRoom_of_full (not_lt.mp hroom)
    rw [e]
    exact List.map_map

theorem takeLate_counter (s : State) (e : Entry) {c : Counter} (hc : c ∉ markCounters) :
    (s.takeLate e).counter c = (s.count .late).makeRoom.counter c := by
  rw [takeLate_eq, evict_counter, feedLate_counter hc]
  rfl

theorem takeLate_late (s : State) (e : Entry) :
    (s.takeLate e).counter .late = min 65535 (s.counter .late + 1) := by
  rw [takeLate_counter s e (by decide), makeRoom_counter_other _ (by decide)]
  exact s.count_counter_self .late

theorem takeLate_recordEvict (s : State) (e : Entry) : (s.takeLate e).counter .recordEvict
    = if s.record.entries.length < 256 then s.counter .recordEvict
      else min 65535 (s.counter .recordEvict + 1) := by
  rw [takeLate_counter s e (by decide), makeRoom_recordEvict,
    s.count_counter_other (c := .late) (by decide)]
  rfl

/-- The billets' heads stand as they were when the eviction test of the late path is made. -/
theorem feedLate_heads (s : State) (e : Entry) :
    (((s.count .late).enterLate e.asLate).feedLate e).billet.billets.map Billet.head
      = s.billet.billets.map Billet.head := by
  obtain ⟨m, d, h⟩ := feedLate_footprint ((s.count .late).enterLate e.asLate) e
  rw [h]
  exact makeRoom_heads (s.count .late)

/-- The record after the late path without a billet. -/
theorem takeLate_entries_of_no_billet {s : State} (h : s.billet.billets = []) (e : Entry) :
    (s.takeLate e).record.entries = insertEntry e.asLate (roomIn s.record.entries) := by
  have hheads := feedLate_heads s e
  rw [h] at hheads
  rw [takeLate_eq, evict_of_no_billet (List.map_eq_nil_iff.mp hheads), feedLate_record,
    enterLate_record]
  rfl

/-- The record after the late path under an oldest billet (R147). -/
theorem takeLate_entries_of_oldest {s : State} {oldest : Billet} {rest : List Billet}
    (h : s.billet.billets = oldest :: rest) (e : Entry) :
    (s.takeLate e).record.entries = (insertEntry e.asLate (roomIn s.record.entries)).filter
      fun x => oldest.head ≤ x.stop.getD x.start := by
  have hheads := feedLate_heads s e
  rw [h] at hheads
  obtain ⟨b, bs, hb, hhead, -⟩ := List.map_eq_cons_iff.mp hheads
  rw [takeLate_eq, evict_of_oldest hb, feedLate_record, enterLate_record, hhead]
  rfl

/-! ### A late finding with room and no billet (R148) -/

theorem Finding.forMarker_iff (f : Finding) (face severity : Nat) : f.forMarker face severity = true ↔
    (f.face = face ∨ f.secondFace = some face) ∧ severity ≤ f.severity := by
  simp [Finding.forMarker]

theorem feedMarker_of_setup {s : State} {v : Setup} (hv : s.ctl.setup = some v) (f : Finding) :
    s.feedMarker f = if f.forMarker s.ctl.face v.markSeverity then s.markFinding v f else s := by
  unfold State.feedMarker
  rw [hv]

/-- With room and no billet a late finding takes its place, LATE counts, and the marker unit is handed it where it
stands for the own face at the mark severity or above. -/
theorem takeLate_finding {s : State} {v : Setup} (hv : s.ctl.setup = some v)
    (hb : s.billet.billets = []) (hroom : s.record.entries.length < 256) (f : Finding) {t : State}
    (ht : t = { s with record := { s.record with
      entries := insertEntry (.finding { f with late := true }) s.record.entries } }.count .late) :
    s.takeLate (.finding f) = if f.forMarker s.ctl.face v.markSeverity
      then t.markFinding v { f with late := true } else t := by
  have henter : (s.count .late).enterLate (.finding { f with late := true }) = t := by
    rw [enterLate_of_room (s := s.count .late) hroom, ht]
    rfl
  have hctl : t.ctl = s.ctl := by
    rw [ht]
    rfl
  have hnone : t.billet.billets = [] := by
    rw [ht]
    exact hb
  have hfeed : t.feedMarker { f with late := true }
      = if f.forMarker s.ctl.face v.markSeverity then t.markFinding v { f with late := true } else t := by
    rw [feedMarker_of_setup (hctl ▸ hv), hctl]
    rfl
  obtain ⟨m, d, hfoot⟩ := t.feedMarker_footprint { f with late := true }
  rw [← hfeed]
  show (((s.count .late).enterLate (.finding { f with late := true })).feedMarker _).evict = _
  rw [henter]
  refine evict_of_no_billet ?_
  rw [hfoot]
  exact hnone

/-! ### The statement -/

/-- Settles O49, by whether the entry is a second copy and on which side of the strand horizon it starts; a GAP to
close by the list that holds it. -/
theorem entriesAreHandedToTheirPlace : Obligations.EntriesAreHandedToTheirPlace := by
  refine ⟨fun s e hs => ⟨handEntry_of_copy, fun hcopy htime => ⟨fun hroom => ?_, fun hfull => ?_⟩,
    fun hcopy hlate => ?_⟩, fun s face subject start stop opened pre post hopened hpre => ?_⟩
  · have hord := ((recordInv_iff s).mp hs).pending
    exact ⟨_, (handEntry_of_timely hcopy htime).trans (toPending_of_room hroom e), hord.insert,
      insertEntry_perm e _, sublist_insertEntry e _⟩
  · exact (handEntry_of_timely hcopy htime).trans (toPending_of_full hfull e)
  · have hord := ((recordInv_iff s).mp hs).entries
    obtain ⟨es, hrecord, -⟩ := takeLate_record s e
    rw [handEntry_of_late hcopy hlate]
    refine ⟨by rw [hrecord], by rw [hrecord], takeLate_late s e, takeLate_recordEvict s e, ?_⟩
    intro held g hheld hg
    obtain rfl : held = roomIn s.record.entries := hheld
    obtain rfl : g = e.asLate := by
      rw [hg]
      cases e <;> rfl
    refine ⟨insertEntry e.asLate (roomIn s.record.entries),
      (hord.sublist (roomIn_sublist _)).insert, insertEntry_perm _ _, ?_, ?_⟩
    · cases hb : s.billet.billets with
      | nil => exact takeLate_entries_of_no_billet hb e
      | cons oldest rest => exact takeLate_entries_of_oldest hb e
    · rintro f v rfl hroom hb hv
      have hheld : roomIn s.record.entries = s.record.entries := if_pos hroom
      have htake := takeLate_finding hv hb hroom f rfl
      rw [hheld]
      refine ⟨fun hnot => htake.trans (if_neg fun hmark => ?_), fun hface hsev =>
        htake.trans (if_pos ((f.forMarker_iff _ _).mpr ⟨hface, hsev⟩))⟩
      obtain ⟨hface, hsev⟩ := (f.forMarker_iff _ _).mp hmark
      obtain ⟨hne, hne'⟩ | hlt := hnot
      · exact hface.elim hne hne'
      · exact absurd hsev (not_le.mpr hlt)
  · subst hopened
    refine ⟨fun hpend => ?_, fun hnot hentries => ?_, fun hnot hnot' => ?_⟩
    · rw [closeGap_of_pending (by rw [hpend]; simp), hpend, closeFirst_of_first hpre]
    · rw [closeGap_of_not_pending hnot, hentries, closeFirst_of_first hpre]
    · rw [closeGap_of_not_pending hnot, closeFirst_of_not_mem hnot']

end Sys2Proof.Machine
end

section
/-! SUPPORT. The judgement of a cut against the billet table (O12): the nearest head, what a new cut writes, and the
table with its retired, closed and opened billets. -/

namespace Sys2Proof.Machine

/-! ### The nearest head and the held tails (R154, R155) -/

theorem natCast_distance (p q : Int) : (distance p q : Int) = |p - q| := Int.natCast_natAbs _

theorem nearestHead_of_far {tolerance : Nat} {p : Int} {bs : List Billet}
    (h : ∀ b ∈ bs, tolerance ≤ distance p b.head) : nearestHead tolerance p bs = none := by
  unfold nearestHead
  induction bs with
  | nil => rfl
  | cons b bs ih =>
    have hb := not_lt.mpr (h b List.mem_cons_self)
    rw [List.foldl_cons, decide_eq_false hb]
    exact ih fun c hc => h c (List.mem_cons_of_mem _ hc)

/-- The billet that the fold of `nearestHead` holds after one more. -/
def nearer (tolerance : Nat) (p : Int) (best : Option Billet) (b : Billet) : Option Billet :=
  if distance p b.head < tolerance && best.all fun c => distance p b.head < distance p c.head
  then some b else best

theorem nearestHead_eq (tolerance : Nat) (p : Int) (bs : List Billet) :
    nearestHead tolerance p bs = bs.foldl (nearer tolerance p) none := rfl

/-- Billets farther than `b` leave none that is as near. -/
theorem foldl_nearer_before {tolerance : Nat} {p : Int} {b : Billet} {pre : List Billet}
    (h : ∀ c ∈ pre, distance p b.head < distance p c.head) {best : Option Billet}
    (hbest : ∀ c ∈ best, distance p b.head < distance p c.head) :
    ∀ c ∈ pre.foldl (nearer tolerance p) best, distance p b.head < distance p c.head := by
  induction pre generalizing best with
  | nil => exact hbest
  | cons x pre ih =>
    refine ih (fun c hc => h c (List.mem_cons_of_mem _ hc)) fun c hc => ?_
    unfold nearer at hc
    split at hc
    · obtain rfl : x = c := Option.some.inj hc
      exact h _ List.mem_cons_self
    · exact hbest c hc

/-- Billets no nearer than `b` leave `b` the nearest. -/
theorem foldl_nearer_after {tolerance : Nat} {p : Int} {b : Billet} {post : List Billet}
    (h : ∀ c ∈ post, distance p b.head ≤ distance p c.head) :
    post.foldl (nearer tolerance p) (some b) = some b := by
  induction post with
  | nil => rfl
  | cons x post ih =>
    have hx := not_lt.mpr (h x List.mem_cons_self)
    have hkeep : nearer tolerance p (some b) x = some b := if_neg (by simp [hx])
    rw [List.foldl_cons, hkeep]
    exact ih fun c hc => h c (List.mem_cons_of_mem _ hc)

/-- In a table of rising heads the nearest within the tolerance, the lower of two equally near, is found (R154). -/
theorem nearestHead_of_nearest {tolerance : Nat} {p : Int} {bs : List Billet}
    (hbs : bs.Pairwise fun a b => a.head < b.head) {b : Billet} (hb : b ∈ bs)
    (hnear : distance p b.head < tolerance)
    (hleast : ∀ c ∈ bs, distance p b.head < distance p c.head
      ∨ distance p b.head = distance p c.head ∧ b.head ≤ c.head) :
    nearestHead tolerance p bs = some b := by
  obtain ⟨pre, post, rfl⟩ := List.append_of_mem hb
  have hrise : ∀ c ∈ pre, c.head < b.head := fun c hc =>
    (List.pairwise_append.mp hbs).2.2 c hc b List.mem_cons_self
  have hpre : ∀ c ∈ pre, distance p b.head < distance p c.head := fun c hc =>
    (hleast c (List.mem_append_left _ hc)).resolve_right fun ⟨_, hle⟩ =>
      absurd (hrise c hc) (not_lt.mpr hle)
  have hpost : ∀ c ∈ post, distance p b.head ≤ distance p c.head := fun c hc =>
    (hleast c (List.mem_append_right _ (List.mem_cons_of_mem _ hc))).elim le_of_lt fun ⟨he, _⟩ => he.le
  have hbefore := foldl_nearer_before (tolerance := tolerance) hpre (best := none) (by simp)
  have htake : nearer tolerance p (pre.foldl (nearer tolerance p) none) b = some b := by
    refine if_pos ?_
    rw [decide_eq_true hnear, Bool.true_and, Option.all_eq_true]
    exact fun c hc => decide_eq_true (hbefore c hc)
  rw [nearestHead_eq, List.foldl_append, List.foldl_cons, htake, foldl_nearer_after hpost]

theorem nearTail_iff {tolerance : Nat} {p : Int} {bs : List Billet} :
    nearTail tolerance p bs = true ↔ ∃ b ∈ bs, ∃ q ∈ b.tail, distance p q < tolerance := by
  simp [nearTail, List.any_eq_true, Option.any_eq_true]

theorem outOfOrder_iff {k : Nat} {p : Int} {bs : List Billet} :
    outOfOrder k p bs = true ↔ ∃ b ∈ bs.getLast?, p < b.head ∨ k ≤ b.number := by
  simp [outOfOrder, Option.any_eq_true]

section
variable {s : State} {v : Setup} {received : Bool} {k : Nat} {p : Int}

theorem takeCut_of_nearest {b : Billet} (h : nearestHead v.cutTolerance p s.billet.billets = some b) :
    s.takeCut v received k p = if b.number = k then s else s.setFlag .cutConflict := by
  unfold State.takeCut
  rw [h]

variable (hfar : nearestHead v.cutTolerance p s.billet.billets = none)
include hfar

theorem takeCut_of_held_tail (h : nearTail v.cutTolerance p s.billet.billets = true) :
    s.takeCut v received k p = s := by
  unfold State.takeCut
  rw [hfar]
  exact if_pos h

variable (htail : nearTail v.cutTolerance p s.billet.billets = false)
include htail

theorem takeCut_of_disorder (h : outOfOrder k p s.billet.billets = true) :
    s.takeCut v received k p = s.setFlag .cutConflict := by
  unfold State.takeCut
  rw [hfar, htail, h]
  rfl

theorem takeCut_of_new (h : outOfOrder k p s.billet.billets = false) :
    s.takeCut v received k p = s.newCut v received k p := by
  unfold State.takeCut
  rw [hfar, htail, h]
  rfl

end

/-! ### What the verdict decision leaves (R161) -/

theorem handFrame_counter {c : Counter} (hc : .txOverrun ≠ c) (s : State) (f : TxFrame) :
    (s.handFrame f).counter c = s.counter c := by
  unfold State.handFrame
  split
  · rfl
  · split
    · exact s.count_counter_other hc
    · rfl

theorem decideBillets_counter {c : Counter} (hc : .txOverrun ≠ c) (v : Setup) (bs : List Billet)
    (s : State) : (decideBillets v bs s).2.counter c = s.counter c := by
  induction bs generalizing s with
  | nil => rfl
  | cons b rest ih =>
    unfold decideBillets
    split
    · dsimp only
      split
      · exact handFrame_counter hc s _
      · exact (ih _).trans (handFrame_counter hc s _)
    · exact ih s

theorem verdictDecision_counter {c : Counter} (hc : .txOverrun ≠ c) (s : State) (v : Setup) :
    (s.verdictDecision v).counter c = s.counter c := by
  unfold State.verdictDecision
  split
  · exact decideBillets_counter hc v _ s
  · rfl

/-- What of a billet a verdict leaves as it is: number, head, tail, and whether it is OPEN. -/
def Billet.outline (b : Billet) : Nat × Int × Option Int × Bool :=
  (b.number, b.head, b.tail, b.state == .opened)

theorem decideBillets_outline (v : Setup) (bs : List Billet) (s : State) :
    (decideBillets v bs s).1.map Billet.outline = bs.map Billet.outline := by
  induction bs generalizing s with
  | nil => rfl
  | cons b rest ih =>
    unfold decideBillets
    split
    · rename_i hdue _
      dsimp only
      split
      · rfl
      · rw [List.map_cons, List.map_cons, ih]
        simp [Billet.outline, hdue]
    · dsimp only
      rw [List.map_cons, List.map_cons, ih]

theorem verdictDecision_outline (s : State) (v : Setup) :
    (s.verdictDecision v).billet.billets.map Billet.outline
      = s.billet.billets.map Billet.outline := by
  unfold State.verdictDecision
  split
  · exact decideBillets_outline v _ s
  · rfl

/-- The verdict decision writes billets, transmit queue, send state and counters. -/
theorem verdictDecision_writes (s : State) (v : Setup) : ∃ bs q n d, s.verdictDecision v
    = { s with billet := { s.billet with billets := bs }
               xcvr := { s.xcvr with queue := q, send := n }, diag := d } := by
  cases hr : s.hasRole with
  | false => exact ⟨_, _, _, _, verdictDecision_without_role hr⟩
  | true =>
    obtain ⟨x, d, e⟩ := decideBillets_footprint v s.billet.billets s
    obtain ⟨q, n, hx⟩ := (decideBillets_reports v s.billet.billets s).xcvr
    rw [e] at hx
    refine ⟨(decideBillets v s.billet.billets s).1, q, n, d, ?_⟩
    rw [verdictDecision_with_role hr, e, show x = _ from hx]

/-! ### The table after a cut (R157) -/

theorem close_fallDue_head (b : Billet) (p h : Int) : ((b.close p).fallDue h).head = b.head := by
  unfold Billet.fallDue
  split <;> rfl

theorem close_fallDue_tail (b : Billet) (p h : Int) : ((b.close p).fallDue h).tail = some p := by
  unfold Billet.fallDue
  split <;> rfl

theorem cutTable_concat (k : Nat) (p h : Int) (floor : Option Int) (init : List Billet) (b : Billet) :
    cutTable k p h floor (init ++ [b])
      = init ++ [(b.close p).fallDue h, openBillet k p floor] := by
  simp [cutTable]

section
variable (k : Nat) (p h : Int) (floor : Option Int) (bs : List Billet)

theorem cutTable_heads : (cutTable k p h floor bs).map Billet.head = bs.map Billet.head ++ [p] := by
  cases bs using List.reverseRecOn with
  | nil => rfl
  | append_singleton init b =>
    rw [cutTable_concat]
    simp [close_fallDue_head, openBillet]

theorem cutTable_getLast? : (cutTable k p h floor bs).getLast? = some (openBillet k p floor) := by
  cases bs using List.reverseRecOn with
  | nil => rfl
  | append_singleton init b =>
    rw [cutTable_concat]
    simp

/-- The billet that was the newest has the cut for its tail. -/
theorem cutTable_closed : (cutTable k p h floor bs).dropLast.getLast?.map Billet.tail
    = bs.getLast?.map fun _ => some p := by
  cases bs using List.reverseRecOn with
  | nil => rfl
  | append_singleton init b =>
    rw [cutTable_concat]
    simp [close_fallDue_tail]

end

/-! ### A new cut (R156 to R158) -/

theorem retire_writes (s : State) : ∃ es bs d, s.retire
    = { s with record := { s.record with entries := es }
               billet := { s.billet with billets := bs }, diag := d } := by
  have hevict : ∀ (bs : List Billet) (d : Diagnostics), ∃ es : List Entry,
      State.evict { s with billet := { s.billet with billets := bs }, diag := d }
        = { s with record := { s.record with entries := es }
                   billet := { s.billet with billets := bs }, diag := d } := by
    intro bs d
    cases bs with
    | nil => exact ⟨_, evict_of_no_billet rfl⟩
    | cons b bs => exact ⟨_, evict_of_oldest rfl⟩
  unfold State.retire
  split
  · exact ⟨_, _, _, rfl⟩
  · split
    · exact ⟨_, _, _, rfl⟩
    · split
      · obtain ⟨es, e⟩ := hevict _ s.diag
        exact ⟨es, _, _, e⟩
      · split
        · exact ⟨_, _, _, rfl⟩
        · obtain ⟨es, e⟩ := hevict _ _
          exact ⟨es, _, _, e⟩

section
variable (s : State) (v : Setup) (received : Bool) (k : Nat) (p : Int)

theorem newCut_of_table {s : State} (h : s.retire.billet.billets ≠ []) : s.newCut v received k p
    = (s.retire.withCut v received k p).verdictDecision v := by
  rw [newCut_eq, if_neg (by simpa using h)]

/-- Without a billet held the new one is the oldest, and the eviction test is made (R147). -/
theorem newCut_of_no_table {s : State} (h : s.retire.billet.billets = []) : s.newCut v received k p
    = (s.retire.withCut v received k p).evict := by
  rw [newCut_eq, if_pos (by simpa using h)]

/-- A new cut writes the own cut counter, record entries, billets, transmit queue, send state and diagnostics. -/
theorem newCut_writes : ∃ q n es bs d, s.newCut v received k p = { s with
    travel := { s.travel with
      cutCounter := if received && v.cutReporting then some k else s.travel.cutCounter }
    xcvr := { s.xcvr with queue := q, send := n }
    record := { s.record with entries := es }
    billet := { s.billet with billets := bs }, diag := d } := by
  obtain ⟨es, bs, d, e⟩ := retire_writes s
  by_cases h : s.retire.billet.billets = []
  · rw [newCut_of_no_table v received k p h, e]
    have hone : bs = [] := by rwa [e] at h
    subst hone
    exact ⟨_, _, _, _, _, evict_of_oldest rfl⟩
  · obtain ⟨bs', q, n, d', e'⟩ := verdictDecision_writes (s.retire.withCut v received k p) v
    rw [newCut_of_table v received k p h, e', e]
    exact ⟨q, n, es, bs', d', rfl⟩

theorem newCut_outline : (s.newCut v received k p).billet.billets.map Billet.outline
    = (cutTable k p s.retire.hz.horizon s.retire.billet.floor s.retire.billet.billets).map
        Billet.outline := by
  by_cases h : s.retire.billet.billets = []
  · rw [newCut_of_no_table v received k p h, evict_billet]
    rfl
  · rw [newCut_of_table v received k p h, verdictDecision_outline]
    rfl

/-- The heads after a new cut: those the table keeps, and the cut. -/
theorem newCut_heads : (s.newCut v received k p).billet.billets.map Billet.head
    = s.retire.billet.billets.map Billet.head ++ [p] := by
  have h := congrArg (List.map fun o => o.2.1) (newCut_outline s v received k p)
  rw [List.map_map, List.map_map] at h
  exact h.trans (cutTable_heads k p _ _ _)

/-- The newest billet after a new cut is the one it opens. -/
theorem newCut_opens : ((s.newCut v received k p).billet.billets.getLast?.map fun b =>
    (b.number, b.head, b.tail, b.state)) = some (k, p, none, .opened) := by
  have h := congrArg List.getLast? (newCut_outline s v received k p)
  rw [List.getLast?_map, List.getLast?_map, cutTable_getLast?] at h
  obtain ⟨b, hb, hout⟩ := Option.map_eq_some_iff.mp h
  simp only [Billet.outline, openBillet, Prod.mk.injEq, beq_self_eq_true, beq_iff_eq] at hout
  obtain ⟨hnumber, hhead, htail, hstate⟩ := hout
  rw [hb, Option.map_some, hnumber, hhead, htail, hstate]

/-- The billet before the newest has the cut for its tail. -/
theorem newCut_closes : (s.newCut v received k p).billet.billets.dropLast.getLast?.map Billet.tail
    = s.retire.billet.billets.getLast?.map fun _ => some p := by
  have h := congrArg (fun l => (l.map fun o => o.2.2.1).dropLast.getLast?)
    (newCut_outline s v received k p)
  simp only [List.map_map, ← List.map_dropLast, List.getLast?_map] at h
  exact h.trans (cutTable_closed k p _ _ _)

/-- With a billet held on, record and VERDICT-LOST are those that the retirement leaves. -/
theorem newCut_after_retirement {s : State} (h : s.retire.billet.billets ≠ []) :
    (s.newCut v received k p).record = s.retire.record
      ∧ (s.newCut v received k p).counter .verdictLost = s.retire.counter .verdictLost := by
  rw [newCut_of_table v received k p h]
  refine ⟨?_, verdictDecision_counter (by decide) _ v⟩
  obtain ⟨b, x, d, e⟩ := (s.retire.withCut v received k p).verdictDecision_footprint v
  rw [e]
  rfl

end

/-! ### Which billet a full table retires -/

section
variable {s : State} {oldest : Billet}

/-- The oldest billet goes: the record keeps what does not lie wholly before the new oldest head. -/
theorem retire_oldest {next : Billet} {rest : List Billet}
    (hb : s.billet.billets = oldest :: next :: rest) (hfull : 16 ≤ s.billet.billets.length)
    (h : oldest.state = .reported ∨ ∀ b ∈ (next :: rest).dropLast, b.state ≠ .reported) :
    s.retire.billet.billets = next :: rest
      ∧ s.retire.record.entries = s.record.entries.filter (fun e => next.head ≤ e.stop.getD e.start)
      ∧ s.retire.counter .verdictLost = if oldest.state = .reported then s.counter .verdictLost
          else min 65535 (s.counter .verdictLost + 1) := by
  by_cases hrep : oldest.state = .reported
  · rw [retire_of_oldest_reported hb hfull hrep, evict_of_oldest rfl, if_pos hrep]
    exact ⟨rfl, rfl, rfl⟩
  · rw [retire_of_none_reported hb hfull hrep (h.resolve_left hrep), evict_of_oldest rfl, if_neg hrep]
    exact ⟨rfl, rfl, State.count_counter_self _ _⟩

/-- The oldest REPORTED billet but the newest goes in place of an oldest that is not REPORTED. -/
theorem retire_reported {pre post : List Billet} {b : Billet}
    (hb : s.billet.billets = oldest :: (pre ++ b :: post)) (hfull : 16 ≤ s.billet.billets.length)
    (ho : oldest.state ≠ .reported) (hpost : post ≠ []) (hrep : b.state = .reported)
    (hpre : ∀ c ∈ pre, c.state ≠ .reported) :
    s.retire = { s with billet := { s.billet with billets := oldest :: (pre ++ post) } } := by
  have hmem : b ∈ (pre ++ b :: post).dropLast := by
    rw [List.dropLast_append_of_ne_nil (List.cons_ne_nil _ _), List.dropLast_cons_of_ne_nil hpost]
    simp
  have herase : ((pre ++ b :: post).eraseP fun c => c.state == .reported) = pre ++ post := by
    rw [List.eraseP_append_right _ fun c hc => by simpa using hpre c hc,
      List.eraseP_cons_of_pos (by simpa using hrep)]
  rw [retire_of_younger_reported hb hfull ho ⟨b, hmem, hrep⟩, herase]

end

/-! ### The statement -/

/-- Settles O12: the cut by the nearest head, the held tails and the newest billet; a new one by what the full
table retires for it. -/
theorem cutsAreJudgedAgainstTheTable : Obligations.CutsAreJudgedAgainstTheTable := by
  rintro s v received k p ⟨-, hrise, -, -⟩ -
  have hheads : s.billet.billets.Pairwise fun a b => a.head < b.head := hrise.imp And.left
  refine ⟨fun b hb hnear hleast => takeCut_of_nearest (nearestHead_of_nearest hheads hb
    ((distance_lt_iff _ _ _).mpr hnear) fun c hc => ?_), fun hfar => ?_⟩
  · have := hleast c hc
    simp only [← natCast_distance] at this
    omega
  · have hnone := nearestHead_of_far fun b hb =>
      not_lt.mp (mt (distance_lt_iff _ _ _).mp (not_lt.mpr (hfar b hb)))
    refine ⟨fun ⟨b, hb, q, hq, hnear⟩ => takeCut_of_held_tail hnone
      (nearTail_iff.mpr ⟨b, hb, q, hq, (distance_lt_iff _ _ _).mpr hnear⟩), fun htails => ?_⟩
    have htail : nearTail v.cutTolerance p s.billet.billets = false := by
      rw [← Bool.not_eq_true, nearTail_iff]
      rintro ⟨b, hb, q, hq, hnear⟩
      exact absurd ((distance_lt_iff _ _ _).mp hnear) (not_lt.mpr (htails b hb q hq))
    refine ⟨fun hdis => takeCut_of_disorder hnone htail (outOfOrder_iff.mpr hdis), fun hord => ?_⟩
    have hin : outOfOrder k p s.billet.billets = false := by
      rw [← Bool.not_eq_true, outOfOrder_iff]
      rintro ⟨b, hb, hdis⟩
      obtain ⟨hhead, hnumber⟩ := hord b hb
      omega
    refine ⟨s.newCut v received k p, takeCut_of_new hnone htail hin, ?_, newCut_opens s v received k p,
      fun hroom => ?_, fun oldest next rest hb hfull => ⟨fun hold => ?_, ?_⟩⟩
    · obtain ⟨q, n, es, bs, d, e⟩ := newCut_writes s v received k p
      rw [e]
    · have hheads := newCut_heads s v received k p
      have hcloses := newCut_closes s v received k p
      rw [retire_of_room hroom] at hheads hcloses
      exact ⟨hheads, hcloses⟩
    · obtain ⟨htable, hentries, hlost⟩ := retire_oldest hb hfull hold
      obtain ⟨hrecord, hcount⟩ := newCut_after_retirement v received k p (s := s)
        (htable ▸ List.cons_ne_nil _ _)
      have hcounted := hcount.trans hlost
      refine ⟨?_, ?_⟩
      · rw [newCut_heads, htable]
        rfl
      · -- The statement's filter reads on to its end, so VERDICT-LOST stands under the filter.
        rw [hrecord, hentries]
        exact List.filter_congr fun e _ => decide_eq_decide.mpr (and_iff_left hcounted).symm
    · intro pre post b ho hsplit hpost hrep hpre
      have hretire := retire_reported (hsplit ▸ hb) hfull ho hpost hrep hpre
      have htable : s.retire.billet.billets = oldest :: (pre ++ post) := by rw [hretire]
      obtain ⟨hrecord, hcount⟩ := newCut_after_retirement v received k p (s := s)
        (htable ▸ List.cons_ne_nil _ _)
      refine ⟨?_, hrecord.trans (by rw [hretire]), hcount.trans (by rw [hretire]; rfl)⟩
      rw [newCut_heads, htable]
      rfl

end Sys2Proof.Machine
end

section
/-! SUPPORT. The marker unit in order (O60): the marks that wait are stretches in the order of their starts, and what
inserts, joins, starts and follows marks keeps them so, with the output ON only under an active mark. -/

namespace Sys2Proof.Machine

set_option Elab.async false

/-! ### The marks that wait -/

/-- Marks that wait: stretches, in the order of their starts (R178). -/
structure MarksInLine (q : List Mark) : Prop where
  stretches : ∀ m ∈ q, m.start ≤ m.stop
  order : q.Pairwise fun a b => a.start ≤ b.start

theorem marksInLine_nil : MarksInLine [] := ⟨nofun, .nil⟩

theorem marksInLine_cons {m : Mark} {q : List Mark} :
    MarksInLine (m :: q) ↔ m.start ≤ m.stop ∧ (∀ x ∈ q, m.start ≤ x.start) ∧ MarksInLine q := by
  constructor
  · rintro ⟨hs, ho⟩
    obtain ⟨hm, hs⟩ := List.forall_mem_cons.mp hs
    obtain ⟨hfirst, ho⟩ := List.pairwise_cons.mp ho
    exact ⟨hm, hfirst, hs, ho⟩
  · rintro ⟨hm, hfirst, hs, ho⟩
    exact ⟨List.forall_mem_cons.mpr ⟨hm, hs⟩, List.pairwise_cons.mpr ⟨hfirst, ho⟩⟩

theorem mem_insertMark {new m : Mark} {q : List Mark} :
    m ∈ insertMark new q ↔ m = new ∨ m ∈ q := by
  induction q with
  | nil => exact List.mem_cons
  | cons x rest ih =>
    unfold insertMark
    split
    · exact List.mem_cons
    · rw [List.mem_cons, ih, List.mem_cons]
      exact or_left_comm

/-- A stretch takes its place by mark start (R178). -/
theorem MarksInLine.insertMark {q : List Mark} (h : MarksInLine q) {new : Mark} (hnew : new.start ≤ new.stop) :
    MarksInLine (insertMark new q) := by
  induction q with
  | nil => exact marksInLine_cons.mpr ⟨hnew, nofun, marksInLine_nil⟩
  | cons x rest ih =>
    obtain ⟨hx, hfirst, hrest⟩ := marksInLine_cons.mp h
    unfold Machine.insertMark
    split
    · rename_i hlt
      refine marksInLine_cons.mpr ⟨hnew, fun y hy => ?_, h⟩
      obtain rfl | hy := List.mem_cons.mp hy
      · exact hlt.le
      · exact hlt.le.trans (hfirst y hy)
    · rename_i hge
      refine marksInLine_cons.mpr ⟨hx, fun y hy => ?_, ih hrest⟩
      obtain rfl | hy := mem_insertMark.mp hy
      · exact not_lt.mp hge
      · exact hfirst y hy

/-- The newest mark takes a later end (R177). -/
theorem MarksInLine.extend {q : List Mark} {m : Mark} (h : MarksInLine (q ++ [m])) (stop : Int) :
    MarksInLine (q ++ [{ m with stop := max m.stop stop }]) := by
  obtain ⟨hstretch, horder⟩ := h
  obtain ⟨hq, -, hbefore⟩ := List.pairwise_append.mp horder
  refine ⟨fun x hx => ?_, List.pairwise_append.mpr ⟨hq, List.pairwise_singleton _ _, fun x hx y hy => ?_⟩⟩
  · obtain hx | hx := List.mem_append.mp hx
    · exact hstretch x (List.mem_append_left _ hx)
    · obtain rfl := List.mem_singleton.mp hx
      exact le_max_of_le_left (hstretch m (by simp))
  · obtain rfl := List.mem_singleton.mp hy
    exact hbefore x hx m (List.mem_singleton_self m)

/-- The mark made of a finding is a stretch, whatever the finding's: it is at least the minimum length, cut at the last
position (R176). -/
theorem markOf_isStretch (v : Setup) (start stop : Int) :
    (markOf v start stop).start ≤ (markOf v start stop).stop := by
  unfold markOf
  dsimp only
  omega

/-! ### The marker unit -/

/-- The law of the marker unit (section 9.1). -/
structure MarkerUnit.Sound (m : MarkerUnit) : Prop where
  output : m.output = .on → m.active.isSome = true
  waiting : MarksInLine m.queue
  active : ∀ a ∈ m.active, a.start ≤ a.stop

theorem markerInv_iff (s : State) : MarkerInv s ↔ s.marker.Sound :=
  ⟨fun ⟨ho, hq, ha, hw⟩ => ⟨ho, ⟨hq, hw⟩, ha⟩, fun ⟨ho, ⟨hq, hw⟩, ha⟩ => ⟨ho, hq, ha, hw⟩⟩

/-- A mark started is active as the output goes ON (R180); a mark dropped or kept waiting leaves the others in line. -/
theorem startFrom_sound (v : Setup) (before : Option Int) {q : List Mark} (hq : MarksInLine q) {s : State}
    (h : s.marker.Sound) : (startFrom v before q s).marker.Sound := by
  induction q generalizing s with
  | nil => exact { h with waiting := marksInLine_nil }
  | cons m rest ih =>
    obtain ⟨hm, -, hrest⟩ := marksInLine_cons.mp hq
    have hstarted : MarkerUnit.Sound { s.marker with
        queue := rest, active := some m, output := .on
        history := pushStart s.nodeTime s.marker.history } := by
      refine ⟨fun _ => rfl, hrest, fun a ha => ?_⟩
      obtain rfl : m = a := Option.some.inj ha
      exact hm
    unfold startFrom
    split
    · exact ih (s := s.count .markLate) hrest h
    · split
      · split
        · exact ih (s := s.count .markSkipped) hrest h
        · dsimp only
          split <;> exact hstarted
      · exact { h with waiting := hq }

theorem startTest_sound {s : State} (h : s.marker.Sound) (before : Option Int) :
    (s.startTest before).marker.Sound := by
  unfold State.startTest
  split
  · exact h
  · split
    · exact h
    · exact startFrom_sound _ before h.waiting h

/-- The newest mark held, waiting or active, takes a later end (R177). -/
theorem extendNewest_sound {m : MarkerUnit} (h : m.Sound) (stop : Int) : (m.extendNewest stop).Sound := by
  unfold MarkerUnit.extendNewest
  split
  · rename_i q hlast
    obtain ⟨init, hq⟩ := List.getLast?_eq_some_iff.mp hlast
    have hwaiting := h.waiting
    rw [hq] at hwaiting
    refine { h with waiting := ?_ }
    rw [hq, List.dropLast_concat]
    exact hwaiting.extend stop
  · refine ⟨fun ho => ?_, h.waiting, fun a ha => ?_⟩
    · rw [Option.isSome_map]
      exact h.output ho
    · obtain ⟨b, hb, rfl⟩ := Option.map_eq_some_iff.mp ha
      exact le_max_of_le_left (h.active b hb)

theorem offerMark_sound {s : State} (h : s.marker.Sound) (v : Setup) {new : Mark}
    (hnew : new.start ≤ new.stop) : (s.offerMark v new).marker.Sound := by
  unfold State.offerMark
  split
  · exact extendNewest_sound h _
  · split
    · exact h
    · split
      · exact h
      · exact startTest_sound (s := { s with marker := { s.marker with
          queue := insertMark new s.marker.queue } }) { h with waiting := h.waiting.insertMark hnew } none

theorem feedMarker_sound {s : State} (h : s.marker.Sound) (f : Finding) :
    (s.feedMarker f).marker.Sound := by
  unfold State.feedMarker State.markFinding
  split
  · exact h
  · split
    · split
      · exact h
      · exact offerMark_sound h _ (markOf_isStretch _ _ _)
    · exact h

/-- A transition turns the output ON under the active mark alone, and OFF as that mark ends (R183, R184). -/
theorem follow_sound {m : MarkerUnit} (h : m.Sound) (dir : Direction) (p : Int) :
    (m.follow dir p).Sound := by
  unfold MarkerUnit.follow
  split
  · exact { h with }
  · rename_i a ha
    have hactive : m.active.isSome = true := by
      rw [ha]
      rfl
    cases dir with
    | reverse => exact { h with output := nofun }
    | forward =>
      dsimp only
      split
      · exact ⟨nofun, h.waiting, nofun⟩
      · split
        · exact { h with output := nofun }
        · exact { h with output := fun _ => hactive }

theorem markMove_sound {s : State} (h : s.marker.Sound) (dir : Direction) (before : Int) :
    (s.markMove dir before).marker.Sound :=
  startTest_sound (s := { s with marker := s.marker.follow dir s.travel.position })
    (follow_sound h dir _) _

end Sys2Proof.Machine
end

section
/-! SUPPORT. The billet table in order (O60): retirement thins it out and keeps its newest billet, a cut that is not out
of order lies above every head and number held, and all else leaves number, head and tail of each billet. -/

namespace Sys2Proof.Machine

set_option Elab.async false

/-! ### The table -/

/-- Heads and numbers rise, and all billets but the newest have a tail (R152). -/
structure Ruled (bs : List Billet) : Prop where
  rise : bs.Pairwise fun a b => a.head < b.head ∧ a.number < b.number
  closed : ∀ b ∈ bs.dropLast, b.tail.isSome = true
  newest : ∀ b ∈ bs.getLast?, b.tail = none

theorem billetInv_iff (s : State) : BilletInv s ↔
    (∀ v ∈ s.ctl.setup, 1 ≤ v.cutTolerance) ∧ Ruled s.billet.billets :=
  ⟨fun ⟨ht, hr, hc, hn⟩ => ⟨ht, hr, hc, hn⟩, fun ⟨ht, hr, hc, hn⟩ => ⟨ht, hr, hc, hn⟩⟩

/-- Number, head and tail of a billet: what the table's law speaks of. -/
def Billet.place (b : Billet) : Nat × Int × Option Int := (b.number, b.head, b.tail)

/-- The law speaks of the places alone. -/
theorem ruled_iff_places (bs : List Billet) : Ruled bs ↔
    (bs.map Billet.place).Pairwise (fun a b => a.2.1 < b.2.1 ∧ a.1 < b.1)
      ∧ (∀ p ∈ (bs.map Billet.place).dropLast, p.2.2.isSome = true)
      ∧ ∀ p ∈ (bs.map Billet.place).getLast?, p.2.2 = none := by
  rw [List.pairwise_map, ← List.map_dropLast, List.getLast?_map, List.forall_mem_map]
  constructor
  · rintro ⟨hrise, hclosed, hnewest⟩
    refine ⟨hrise, hclosed, fun p hp => ?_⟩
    obtain ⟨b, hb, rfl⟩ := Option.map_eq_some_iff.mp hp
    exact hnewest b hb
  · rintro ⟨hrise, hclosed, hnewest⟩
    exact ⟨hrise, hclosed, fun b hb => hnewest b.place (Option.mem_map_of_mem _ hb)⟩

theorem places_of_outlines {bs bs' : List Billet}
    (e : bs'.map Billet.outline = bs.map Billet.outline) : bs'.map Billet.place = bs.map Billet.place := by
  have h := congrArg (List.map fun o => (o.1, o.2.1, o.2.2.1)) e
  rw [List.map_map, List.map_map] at h
  exact h

theorem Ruled.of_places {bs bs' : List Billet} (h : Ruled bs)
    (e : bs'.map Billet.place = bs.map Billet.place) : Ruled bs' := by
  rw [ruled_iff_places] at h ⊢
  rwa [e]

/-- A table with billets taken out of it, the newest staying the newest. -/
structure Thinned (bs bs' : List Billet) : Prop where
  sublist : bs'.Sublist bs
  newest : ∀ b ∈ bs'.getLast?, b ∈ bs.getLast?

theorem Thinned.refl (bs : List Billet) : Thinned bs bs := ⟨.refl bs, fun _ => id⟩

theorem Ruled.thinned {bs bs' : List Billet} (h : Ruled bs) (ht : Thinned bs bs') : Ruled bs' := by
  refine ⟨h.rise.sublist ht.sublist, ?_, fun b hb => h.newest b (ht.newest b hb)⟩
  cases bs' using List.reverseRecOn with
  | nil => exact List.forall_mem_nil _
  | append_singleton init z =>
    obtain ⟨whole, rfl⟩ := List.getLast?_eq_some_iff.mp (ht.newest z List.getLast?_concat)
    have hinit : init.Sublist whole := (List.append_sublist_append_right [z]).mp ht.sublist
    have hclosed := h.closed
    rw [List.dropLast_concat] at hclosed ⊢
    exact fun b hb => hclosed b (hinit.subset hb)

/-- Every billet of the table stands at or below the newest. -/
theorem Ruled.le_newest {bs : List Billet} (h : Ruled bs) {z : Billet} (hz : z ∈ bs.getLast?) :
    ∀ b ∈ bs, b.head ≤ z.head ∧ b.number ≤ z.number := by
  obtain ⟨init, rfl⟩ := List.getLast?_eq_some_iff.mp hz
  intro b hb
  obtain hb | hb := List.mem_append.mp hb
  · obtain ⟨hhead, hnumber⟩ := (List.pairwise_append.mp h.rise).2.2 b hb z (List.mem_singleton_self z)
    exact ⟨hhead.le, hnumber.le⟩
  · obtain rfl := List.mem_singleton.mp hb
    exact ⟨le_rfl, le_rfl⟩

/-! ### Retirement (R156) -/

theorem thinned_tail (oldest : Billet) (rest : List Billet) : Thinned (oldest :: rest) rest :=
  ⟨List.sublist_cons_self _ _, fun _ => List.mem_getLast?_cons⟩

/-- The first REPORTED billet goes, where one but the newest is REPORTED. -/
theorem thinned_eraseP (oldest : Billet) {rest : List Billet}
    (h : (rest.dropLast.any fun b => b.state == .reported) = true) :
    Thinned (oldest :: rest) (oldest :: rest.eraseP fun b => b.state == .reported) := by
  refine ⟨List.eraseP_sublist.cons_cons oldest, fun c hc => ?_⟩
  obtain ⟨b, hb, hrep⟩ := List.any_eq_true.mp h
  cases rest using List.reverseRecOn with
  | nil => exact absurd hb List.not_mem_nil
  | append_singleton init z =>
    rw [List.dropLast_concat] at hb
    rw [List.eraseP_append_left (p := fun b => b.state == .reported) hrep _ hb, ← List.cons_append,
      List.getLast?_concat] at hc
    rwa [← List.cons_append, List.getLast?_concat]

/-- The billet retired is not the newest. -/
theorem retire_thins (s : State) : Thinned s.billet.billets s.retire.billet.billets := by
  unfold State.retire
  split
  · exact .refl _
  · rename_i oldest rest he
    split
    · exact .refl _
    · rw [he]
      split
      · rw [evict_billet]
        exact thinned_tail oldest rest
      · split
        · rename_i hany
          exact thinned_eraseP oldest hany
        · rw [evict_billet]
          exact thinned_tail oldest rest

/-! ### A new cut (R154 to R157) -/

theorem foldl_nearer_of_some (tolerance : Nat) (p : Int) (bs : List Billet) (best : Billet) :
    bs.foldl (nearer tolerance p) (some best) ≠ none := by
  induction bs generalizing best with
  | nil => exact nofun
  | cons b rest ih =>
    rw [List.foldl_cons]
    unfold nearer
    split
    · exact ih b
    · exact ih best

/-- Where no nearest head is found, every head is out of the tolerance (R154). -/
theorem far_of_nearestHead_none {tolerance : Nat} {p : Int} {bs : List Billet}
    (h : nearestHead tolerance p bs = none) : ∀ b ∈ bs, tolerance ≤ distance p b.head := by
  rw [nearestHead_eq] at h
  induction bs with
  | nil => exact List.forall_mem_nil _
  | cons b rest ih =>
    have hfar : tolerance ≤ distance p b.head := by
      by_contra hnear
      have hb : nearer tolerance p none b = some b := if_pos (by simpa using hnear)
      rw [List.foldl_cons, hb] at h
      exact foldl_nearer_of_some tolerance p rest b h
    have hb : nearer tolerance p none b = none := if_neg (by simpa using hfar)
    rw [List.foldl_cons, hb] at h
    exact List.forall_mem_cons.mpr ⟨hfar, ih h⟩

/-- A cut that is near no held head and not out of order lies above every billet of the table. -/
theorem Ruled.below_cut {bs : List Billet} (h : Ruled bs) {tolerance k : Nat} {p : Int}
    (ht : 1 ≤ tolerance) (hfar : nearestHead tolerance p bs = none)
    (horder : outOfOrder k p bs = false) : ∀ b ∈ bs, b.head < p ∧ b.number < k := by
  intro b hb
  obtain ⟨z, hz⟩ := Option.isSome_iff_exists.mp (List.getLast?_isSome.mpr (List.ne_nil_of_mem hb))
  obtain ⟨hhead, hnumber⟩ := h.le_newest hz b hb
  have hin : ¬ (p < z.head ∨ k ≤ z.number) := fun hn =>
    Bool.false_ne_true (horder.symm.trans (outOfOrder_iff.mpr ⟨z, hz, hn⟩))
  have hne : p ≠ z.head := by
    rintro rfl
    have hdist := far_of_nearestHead_none hfar z (List.mem_of_getLast? hz)
    simp only [distance, sub_self, Int.natAbs_zero] at hdist
    omega
  omega

theorem ruled_concat {init : List Billet} {z : Billet}
    (hrise : init.Pairwise fun a b => a.head < b.head ∧ a.number < b.number)
    (hbelow : ∀ b ∈ init, b.head < z.head ∧ b.number < z.number)
    (hclosed : ∀ b ∈ init, b.tail.isSome = true) (hz : z.tail = none) : Ruled (init ++ [z]) where
  rise := List.pairwise_append.mpr ⟨hrise, List.pairwise_singleton _ _, fun b hb c hc =>
    (List.mem_singleton.mp hc) ▸ hbelow b hb⟩
  closed := by rwa [List.dropLast_concat]
  newest b hb := by
    rw [List.getLast?_concat] at hb
    obtain rfl := Option.some.inj hb
    exact hz

theorem close_fallDue_number (b : Billet) (p h : Int) : ((b.close p).fallDue h).number = b.number := by
  unfold Billet.fallDue
  split <;> rfl

/-- The newest billet takes the cut for its tail, and the one opened above it has none (R157). -/
theorem Ruled.cutTable {bs : List Billet} (h : Ruled bs) {k : Nat} {p : Int}
    (hp : ∀ b ∈ bs, b.head < p ∧ b.number < k) (horizon : Int) (floor : Option Int) :
    Ruled (cutTable k p horizon floor bs) := by
  cases bs using List.reverseRecOn with
  | nil => exact ruled_concat (init := []) .nil (List.forall_mem_nil _) (List.forall_mem_nil _) rfl
  | append_singleton init b =>
    obtain ⟨hinit, -, hbelow⟩ := List.pairwise_append.mp h.rise
    have hclosed := h.closed
    rw [List.dropLast_concat] at hclosed
    rw [cutTable_concat, List.append_cons]
    have hhead := close_fallDue_head b p horizon
    have hnumber := close_fallDue_number b p horizon
    refine ruled_concat (List.pairwise_append.mpr ⟨hinit, List.pairwise_singleton _ _, ?_⟩) ?_ ?_ rfl
    · intro a ha c hc
      obtain rfl := List.mem_singleton.mp hc
      rw [hhead, hnumber]
      exact hbelow a ha b (List.mem_singleton_self b)
    · refine List.forall_mem_append.mpr ⟨fun a ha => hp a (List.mem_append_left _ ha), ?_⟩
      rw [List.forall_mem_singleton, hhead, hnumber]
      exact hp b (by simp)
    · refine List.forall_mem_append.mpr ⟨hclosed, ?_⟩
      rw [List.forall_mem_singleton, close_fallDue_tail]
      rfl

/-- The new cut's table is the retired one closed and opened, whatever of it the decision reports (R156, R157, R161). -/
theorem newCut_ruled {s : State} (h : Ruled s.billet.billets) {k : Nat} {p : Int}
    (hp : ∀ b ∈ s.billet.billets, b.head < p ∧ b.number < k) (v : Setup) (received : Bool) :
    Ruled (s.newCut v received k p).billet.billets := by
  have hthin := retire_thins s
  have hcut := (h.thinned hthin).cutTable (fun b hb => hp b (hthin.sublist.subset hb))
    s.retire.hz.horizon s.retire.billet.floor
  exact hcut.of_places (places_of_outlines (newCut_outline s v received k p))

theorem takeCut_ruled {s : State} (h : Ruled s.billet.billets) {v : Setup} (hv : 1 ≤ v.cutTolerance)
    (received : Bool) (k : Nat) (p : Int) : Ruled (s.takeCut v received k p).billet.billets := by
  unfold State.takeCut
  split
  · split <;> exact h
  · rename_i hfar
    split
    · exact h
    · split
      · exact h
      · rename_i hin
        exact newCut_ruled h (h.below_cut hv hfar (Bool.not_eq_true _ ▸ hin)) v received

/-! ### What leaves every billet in its place -/

theorem verdictDecision_places (s : State) (v : Setup) :
    (s.verdictDecision v).billet.billets.map Billet.place = s.billet.billets.map Billet.place :=
  places_of_outlines (verdictDecision_outline s v)

theorem fallDue_place (horizon : Int) (b : Billet) : (b.fallDue horizon).place = b.place := by
  unfold Billet.fallDue
  split <;> rfl

theorem billetRise_places (s : State) (v : Setup) :
    (s.billetRise v).billet.billets.map Billet.place = s.billet.billets.map Billet.place := by
  unfold State.billetRise
  rw [verdictDecision_places, List.map_map]
  exact List.map_congr_left fun b _ => fallDue_place s.hz.horizon b

/-- A removal marks billets TRUNCATED (R138). -/
theorem makeRoom_places (s : State) :
    s.makeRoom.billet.billets.map Billet.place = s.billet.billets.map Billet.place := by
  by_cases hroom : s.record.entries.length < 256
  · rw [makeRoom_of_room hroom]
  · obtain ⟨oldest, -, e⟩ := makeRoom_of_full (not_lt.mp hroom)
    rw [e]
    exact List.map_map

/-- A heard verdict makes a billet REPORTED (R170). -/
theorem hearVerdict_places (s : State) (heard : Verdict) :
    (s.hearVerdict heard).billet.billets.map Billet.place = s.billet.billets.map Billet.place := by
  unfold State.hearVerdict
  split
  · split
    · rfl
    · split
      · split <;> rfl
      · rw [List.map_map]
        refine List.map_congr_left fun b _ => ?_
        rw [Function.comp_apply]
        split <;> rfl
  · rfl

end Sys2Proof.Machine
end

section
/-! SUPPORT. The laws of marker unit and billet table over the operations that blocks share (O60): what feeds or moves the
marker unit and what cuts the table keeps them, all else leaves marks, places and setup as they were. -/

namespace Sys2Proof.Machine

set_option Elab.async false

/-- What `MarkerInv` says of `s` it says of `t`, and so does `BilletInv`. Rules are chained in the order in which
operations run, from a fixed `s` on. -/
structure Keeping (s t : State) : Prop where
  marks : MarkerInv s → MarkerInv t
  billets : BilletInv s → BilletInv t

namespace Keeping

theorem refl (s : State) : Keeping s s := ⟨id, id⟩

theorem trans {s t u : State} (h : Keeping s t) (k : Keeping t u) : Keeping s u :=
  ⟨k.marks ∘ h.marks, k.billets ∘ h.billets⟩

variable {a s : State}

/-! ### The changes the laws hang on -/

/-- A change that computes to the same marks, the same places in the table and the same setup. -/
theorem still (h : Keeping a s) {t : State} (hm : t.marker = s.marker := by rfl)
    (hb : t.billet.billets.map Billet.place = s.billet.billets.map Billet.place := by rfl)
    (hv : t.ctl.setup = s.ctl.setup := by rfl) : Keeping a t := by
  refine h.trans ⟨fun k => ?_, fun k => ?_⟩
  · rw [markerInv_iff] at k ⊢
    rwa [hm]
  · rw [billetInv_iff] at k ⊢
    obtain ⟨ht, hr⟩ := k
    rw [hv]
    exact ⟨ht, hr.of_places hb⟩

/-- A change that leaves billets and setup as they are. -/
theorem marked (h : Keeping a s) {t : State} (hm : s.marker.Sound → t.marker.Sound)
    (hb : t.billet = s.billet := by rfl) (hv : t.ctl.setup = s.ctl.setup := by rfl) : Keeping a t := by
  refine h.trans ⟨fun k => (markerInv_iff t).mpr (hm ((markerInv_iff s).mp k)), fun k => ?_⟩
  rw [billetInv_iff] at k ⊢
  rwa [hb, hv]

theorem feedMarker (h : Keeping a s) {f : Finding} : Keeping a (s.feedMarker f) := by
  obtain ⟨m, d, e⟩ := s.feedMarker_footprint f
  exact h.marked (feedMarker_sound · f) (by rw [e]) (by rw [e])

theorem markMove (h : Keeping a s) {dir : Direction} {before : Int} :
    Keeping a (s.markMove dir before) := by
  obtain ⟨m, d, e⟩ := s.markMove_footprint dir before
  exact h.marked (markMove_sound · dir before) (by rw [e]) (by rw [e])

/-- A cut is judged with the cut tolerance of the setup, at least 1. -/
theorem takeCut (h : Keeping a s) {v : Setup} (hv : s.ctl.setup = some v) {received : Bool}
    {number : Nat} {position : Int} : Keeping a (s.takeCut v received number position) := by
  obtain ⟨r, b, x, d, c, e⟩ := s.takeCut_footprint v received number position
  refine h.trans ⟨fun k => ?_, fun k => ?_⟩
  · rw [e]
    exact k
  · rw [billetInv_iff] at k ⊢
    obtain ⟨ht, hr⟩ := k
    refine ⟨?_, takeCut_ruled hr (ht v hv) received number position⟩
    rw [e]
    exact ht

/-- An accepted SETUP gives a cut tolerance of at least 1 and puts the output OFF with no mark active (R187, R191). -/
theorem setup (h : Keeping a s) {v : Setup} (hv : 1 ≤ v.cutTolerance) {t : State}
    (hm : t.marker = { s.marker with active := none, output := .off } := by rfl)
    (hb : t.billet = s.billet := by rfl) (ht : t.ctl.setup = some v := by rfl) : Keeping a t := by
  refine h.trans ⟨fun k => ?_, fun k => ?_⟩
  · rw [markerInv_iff] at k ⊢
    rw [hm]
    exact ⟨nofun, k.waiting, nofun⟩
  · rw [billetInv_iff] at k ⊢
    obtain ⟨-, hr⟩ := k
    rw [hb, ht]
    refine ⟨fun w hw => ?_, hr⟩
    obtain rfl := Option.some.inj hw
    exact hv

/-! ### Transmit queue and record unit -/

theorem handFrame (h : Keeping a s) {f : TxFrame} : Keeping a (s.handFrame f) := by
  obtain ⟨x, d, e⟩ := s.handFrame_footprint f
  rw [e]
  exact h.still

theorem evict (h : Keeping a s) : Keeping a s.evict := by
  obtain ⟨r, e⟩ := s.evict_footprint
  rw [e]
  exact h.still

theorem makeRoom (h : Keeping a s) : Keeping a s.makeRoom := by
  obtain ⟨r, b, d, e⟩ := s.makeRoom_footprint
  exact h.still (by rw [e]) (makeRoom_places s) (by rw [e])

theorem enterNewest (h : Keeping a s) {e : Entry} : Keeping a (s.enterNewest e) := h.makeRoom.still

theorem enterLate (h : Keeping a s) {e : Entry} : Keeping a (s.enterLate e) := h.makeRoom.still

theorem commitEntry (h : Keeping a s) (v : Setup) (e : Entry) :
    Keeping a (State.commitEntry v s e) := by
  cases e with
  | finding f =>
    unfold State.commitEntry
    dsimp only
    split
    · exact feedMarker h.still
    · exact h.enterNewest.feedMarker
  | loss o p q => exact h.enterNewest
  | gap f o p q => exact h.enterNewest

theorem commitAll (h : Keeping a s) (v : Setup) (es : List Entry) :
    Keeping a (es.foldl (State.commitEntry v) s) := by
  induction es generalizing s with
  | nil => exact h
  | cons e rest ih => exact ih (h.commitEntry v e)

theorem commitBelow (h : Keeping a s) {v : Setup} {horizon : Int} :
    Keeping a (s.commitBelow v horizon) :=
  (commitAll (s := s.takenBelow horizon) h.still v _).evict

theorem takeLate (h : Keeping a s) {e : Entry} : Keeping a (s.takeLate e) := by
  have henter : Keeping a ((s.count .late).enterLate e.asLate) := enterLate h.still
  rw [takeLate_eq]
  cases e with
  | finding f => exact henter.feedMarker.evict
  | loss o p q => exact henter.evict
  | gap f o p q => exact henter.evict

theorem handEntry (h : Keeping a s) {e : Entry} : Keeping a (s.handEntry e) := by
  unfold State.handEntry
  split
  · split
    · exact h.still
    · exact h
  · split
    · exact h.takeLate
    · obtain ⟨r, d, e⟩ := s.toPending_footprint e
      rw [e]
      exact h.still

theorem closeGap (h : Keeping a s) {face subject : Nat} {start stop : Int} :
    Keeping a (s.closeGap face subject start stop) := by
  obtain ⟨r, e⟩ := s.closeGap_footprint face subject start stop
  rw [e]
  exact h.still

/-! ### Billet unit and horizon unit -/

theorem verdictDecision (h : Keeping a s) {v : Setup} : Keeping a (s.verdictDecision v) := by
  obtain ⟨b, x, d, e⟩ := s.verdictDecision_footprint v
  exact h.still (by rw [e]) (verdictDecision_places s v) (by rw [e])

theorem billetRise (h : Keeping a s) {v : Setup} : Keeping a (s.billetRise v) := by
  obtain ⟨b, x, d, e⟩ := s.billetRise_footprint v
  exact h.still (by rw [e]) (billetRise_places s v) (by rw [e])

theorem hearVerdict (h : Keeping a s) {heard : Verdict} : Keeping a (s.hearVerdict heard) := by
  obtain ⟨b, d, e⟩ := s.hearVerdict_footprint heard
  exact h.still (by rw [e]) (hearVerdict_places s heard) (by rw [e])

theorem recomputeHorizon (h : Keeping a s) {v : Setup} : Keeping a (s.recomputeHorizon v) := by
  unfold State.recomputeHorizon
  split
  · exact (commitBelow h.still).billetRise
  · exact h

theorem recompute (h : Keeping a s) : Keeping a s.recompute := by
  unfold State.recompute
  split
  · exact h
  · rename_i v _
    have hstep : Keeping a
        ({ s with hz := { s.hz with ownClearTo := s.newClearTo v } }.horizonStep v) := by
      obtain ⟨x, d, e⟩ := State.horizonStep_footprint
        { s with hz := { s.hz with ownClearTo := s.newClearTo v } } v
      rw [e]
      exact h.still
    dsimp only
    split
    · exact hstep
    · exact hstep.recomputeHorizon

theorem recomputeIfMoved (h : Keeping a s) {old : State} : Keeping a (s.recomputeIfMoved old) := by
  unfold State.recomputeIfMoved
  split
  · exact h
  · exact h.recompute

theorem openOwnGap (h : Keeping a s) {v : Setup} : Keeping a (s.openOwnGap v) := handEntry h.still

theorem coveringTest (h : Keeping a s) {v : Setup} : Keeping a (s.coveringTest v) := by
  unfold State.coveringTest
  split
  · exact h
  · dsimp only
    split
    · obtain ⟨r, e⟩ := State.closeOwnGap_footprint
        { s with ctl := { s.ctl with covering := s.isCovering } } v
      rw [e]
      exact h.still
    · exact openOwnGap h.still

/-! ### Reference scheduler -/

theorem dueTest (h : Keeping a s) : Keeping a s.dueTest := by
  obtain ⟨p, c, e⟩ := s.dueTest_footprint
  rw [e]
  exact h.still

theorem lineBoundary (h : Keeping a s) {v : Setup} : Keeping a (s.lineBoundary v) := by
  obtain ⟨p, c, e⟩ := s.lineBoundary_footprint v
  rw [e]
  exact h.still

theorem startAll (h : Keeping a s) : Keeping a s.startAll := by
  obtain ⟨p, c, k, e⟩ := s.startAll_footprint
  rw [e]
  exact h.still

theorem truncateByFault (h : Keeping a s) : Keeping a s.truncateByFault := by
  obtain ⟨p, c, k, e⟩ := s.truncateByFault_footprint
  rw [e]
  exact h.still

theorem truncateCycle (h : Keeping a s) {i : Fin 8} {n : Nat} : Keeping a (s.truncateCycle i n) := by
  obtain ⟨p, e⟩ := s.stopReference_footprint
  unfold State.truncateCycle
  rw [e]
  dsimp only
  split <;> exact h.still

/-! ### Tracer and corrector -/

theorem takeClosed (h : Keeping a s) (v : Setup) (x : Trace) : Keeping a (State.takeClosed v s x) := by
  unfold State.takeClosed
  split
  · exact h
  · dsimp only
    split
    · exact h.still
    · exact (handEntry h.still).handFrame

theorem takeAllClosed (h : Keeping a s) {v : Setup} {closed : List Trace} :
    Keeping a (s.takeAllClosed v closed) := by
  unfold State.takeAllClosed
  generalize closedOrder closed = xs
  induction xs generalizing s with
  | nil => exact h
  | cons x rest ih => exact ih (h.takeClosed v x)

theorem closeAll (h : Keeping a s) {v : Setup} {kind : CloseKind} : Keeping a (s.closeAll v kind) :=
  takeAllClosed h.still

theorem traceLine (h : Keeping a s) {v : Setup} {line : ProcessedLine} :
    Keeping a (s.traceLine v line) := by
  unfold State.traceLine
  dsimp only
  generalize openRuns line _ _ = opened
  obtain ⟨k, d, e⟩ := s.dropRuns_footprint v line opened.2
  rw [e]
  exact takeAllClosed h.still

theorem discardLine (h : Keeping a s) {v : Setup} {line : ProcessedLine} :
    Keeping a (s.discardLine v line) := by
  unfold State.discardLine
  split
  · exact h.still
  · exact h

theorem correctLine (h : Keeping a s) {v : Setup} {line : LineInFlight} {raw : List (BitVec 12)}
    {withheld : SegMask} : Keeping a (s.correctLine v line raw withheld) := by
  obtain ⟨c, l, k, n, d, e⟩ := s.correctLine_footprint v line raw withheld
  rw [e]
  exact h.still

theorem abortBuild (h : Keeping a s) : Keeping a s.abortBuild := by
  obtain ⟨k, e⟩ := s.abortBuild_footprint
  rw [e]
  exact h.still

/-! ### Modes -/

theorem enterInspecting (h : Keeping a s) {v : Setup} : Keeping a (s.enterInspecting v) :=
  (coveringTest h.still).recompute

theorem referenceDone (h : Keeping a s) {v : Setup} : Keeping a (s.referenceDone v) := by
  unfold State.referenceDone
  split
  · exact h.enterInspecting
  · exact recompute h.still

theorem strandEnd (h : Keeping a s) {v : Setup} : Keeping a (s.strandEnd v) :=
  (closeAll h.still).abortBuild.startAll.coveringTest.recompute

theorem abandonNoted (h : Keeping a s) {v : Setup} : Keeping a (s.abandonNoted v) := by
  unfold State.abandonNoted
  split
  · exact h
  · exact h.still

theorem enterHeadFault (h : Keeping a s) {v : Setup} : Keeping a (s.enterHeadFault v) := by
  have hcut : Keeping a (((s.setFlag .headFault).setMode .headFault).abandonNoted v).truncateByFault :=
    (abandonNoted h.still).truncateByFault
  exact (closeAll hcut.still).abortBuild.coveringTest

theorem countTimeout (h : Keeping a s) {v : Setup} : Keeping a (s.countTimeout v) := by
  unfold State.countTimeout
  dsimp only
  split
  · exact enterHeadFault h.still
  · exact h.still

theorem recover (h : Keeping a s) : Keeping a s.recover := (startAll h.still).recompute

end Keeping

end Sys2Proof.Machine
end

section
/-! SUPPORT. The laws of marker unit and billet table over every command (O60). -/

namespace Sys2Proof.Machine

set_option Elab.async false

/-- A SETUP that passes FORM gives a cut tolerance of at least 1 (R101, R191). -/
theorem cutTolerance_of_formOk {head : FrameHead} {body : List Byte}
    (h : formOk .setup head body = true) : 1 ≤ (parseSetup body).cutTolerance := by
  have hr : (parseSetup body).inRange = true := by
    simp only [formOk, FrameClass.bodyOk, Bool.and_eq_true] at h
    exact h.2.1
  simp only [Setup.inRange, within, Bool.and_eq_true, decide_eq_true_eq] at hr
  omega

namespace Keeping

variable {a s : State}

/-! ### Commands of the head port -/

theorem takeStale (h : Keeping a s) : Keeping a s.takeStale := by
  unfold State.takeStale
  split
  · exact h
  · exact h.still

theorem takeLine (h : Keeping a s) {line : LineInFlight} {raw : List (BitVec 12)}
    {withheld : SegMask} : Keeping a (s.takeLine line raw withheld) := by
  have hdrop : Keeping a s.dropLine.clearTimeouts := h.still
  unfold State.takeLine
  dsimp only
  split
  · exact hdrop
  · split
    · exact hdrop.correctLine.recompute
    · exact hdrop.recompute

theorem takeArrival (h : Keeping a s) {tag : BitVec 8} {raw : List (BitVec 12)} {withheld : SegMask} :
    Keeping a (s.takeArrival tag raw withheld) := by
  unfold State.takeArrival
  split
  · exact h.takeLine
  · split
    · exact h.recover
    · exact h.takeStale

theorem takeLineTimeout (h : Keeping a s) : Keeping a s.takeLineTimeout := by
  unfold State.takeLineTimeout
  split
  · split
    · exact (countTimeout h.still).recompute
    · exact h
  · exact h

theorem referenceFull (h : Keeping a s) {scope : Scope} : Keeping a (s.referenceFull scope) := by
  unfold State.referenceFull
  dsimp only
  split
  · exact dueTest h.still
  · split
    · exact h.still
    · exact referenceDone h.still

theorem takeReadoutTag (h : Keeping a s) {tag : BitVec 8} {raw : List (BitVec 12)} :
    Keeping a (s.takeReadoutTag tag raw) := by
  unfold State.takeReadoutTag State.takeReadout
  split
  · dsimp only
    split
    · exact referenceFull h.still
    · exact h.still
  · exact h.takeStale

theorem timeOutReadout (h : Keeping a s) {v : Setup} {r : Reference} :
    Keeping a (s.timeOutReadout v r) := by
  have hcount : Keeping a (s.count .lineTimeout) := h.still
  unfold State.timeOutReadout
  dsimp only
  split <;> split
  · exact hcount.truncateCycle.countTimeout.recompute
  · exact hcount.truncateCycle.countTimeout.dueTest
  · exact (countTimeout hcount.still).recompute
  · exact countTimeout hcount.still

theorem takeReadoutTimeout (h : Keeping a s) : Keeping a s.takeReadoutTimeout := by
  unfold State.takeReadoutTimeout
  split
  · split
    · exact h.timeOutReadout
    · exact h
  · exact h

theorem takeProbeTimer (h : Keeping a s) : Keeping a s.takeProbeTimer := by
  unfold State.takeProbeTimer
  split
  · exact h
  · split
    · dsimp only
      split <;> exact h.still
    · exact h

theorem takeProbeTimeout (h : Keeping a s) : Keeping a s.takeProbeTimeout := by
  unfold State.takeProbeTimeout
  split
  · exact h.still
  · exact h

theorem takeTick (h : Keeping a s) : Keeping a s.takeTick := by
  unfold State.takeTick
  split
  · split
    · exact dueTest h.still
    · exact h
  · exact h

theorem takeProcessed (h : Keeping a s) : Keeping a s.takeProcessed := by
  unfold State.takeProcessed
  split
  · dsimp only
    split
    · exact (discardLine h.still).recompute
    · exact (traceLine h.still).recompute.lineBoundary
  · exact h

/-! ### Commands of the travel unit -/

theorem lineDue (h : Keeping a s) {v : Setup} : Keeping a (s.lineDue v) := by
  obtain ⟨g, l, m, k, d, e⟩ := s.lineDue_footprint v
  rw [e]
  exact h.still

theorem positionChanged (h : Keeping a s) : Keeping a s.positionChanged := by
  unfold State.positionChanged State.raiseHighWater
  split
  · exact h
  · split
    · exact lineDue h.still
    · exact h.lineDue

theorem moveCount (h : Keeping a s) {dir : Direction} {step : Int} :
    Keeping a (s.moveCount dir step) := by
  have hturn : Keeping a (s.turned step) := h.still
  by_cases hc : s.countAfter step = s.travel.count
  · rw [State.moveCount_of_eq hc]
    exact h
  · rw [State.moveCount_of_ne hc]
    refine (markMove ?_).recomputeIfMoved
    split
    · exact hturn
    · exact hturn.positionChanged

theorem takePair (h : Keeping a s) {p q : Bool} : Keeping a (s.takePair p q) := by
  unfold State.takePair
  dsimp only
  split
  · exact h
  · exact h.still
  · exact moveCount h.still
  · exact moveCount h.still

theorem takeRise (h : Keeping a s) : Keeping a s.takeRise := by
  unfold State.takeRise
  split
  · exact h.still
  · dsimp only
    split
    · exact h.still
    · split
      · exact enterInspecting h.still
      · exact h.still

theorem takeFall (h : Keeping a s) : Keeping a s.takeFall := by
  unfold State.takeFall
  split
  · exact h
  · split <;> exact h.still

theorem takeDropout (h : Keeping a s) : Keeping a s.takeDropout := by
  unfold State.takeDropout
  split
  · dsimp only
    split
    · exact h.still
    · split
      · exact strandEnd h.still
      · exact h.still
  · exact h

theorem takeGate (h : Keeping a s) {high : Bool} : Keeping a (s.takeGate high) := by
  unfold State.takeGate
  dsimp only
  split
  · exact h
  · split
    · exact h.still
    · split
      · exact (lineDue h.still).coveringTest.recomputeIfMoved
      · exact h.still

theorem takeCandidate (h : Keeping a s) {v : Setup} (hv : s.ctl.setup = some v) {position : Int} :
    Keeping a (s.takeCandidate v position) := by
  unfold State.takeCandidate
  split
  · exact h.still
  · split
    · exact h.still
    · refine (handFrame h.still).takeCut ?_
      obtain ⟨x, d, e⟩ := State.handFrame_footprint _ _
      rw [e]
      exact hv

theorem takeCutLevel (h : Keeping a s) {high : Bool} : Keeping a (s.takeCutLevel high) := by
  unfold State.takeCutLevel
  dsimp only
  split
  · exact h.still
  · rename_i v hv
    split
    · exact takeCandidate (s := s.withCutLevel high) h.still hv
    · exact h.still

/-! ### The sending side -/

theorem tryToSend (h : Keeping a s) : Keeping a s.tryToSend := by
  unfold State.tryToSend
  split
  · split <;> exact h.still
  · exact h

theorem loseArbitration (h : Keeping a s) : Keeping a s.loseArbitration := by
  unfold State.loseArbitration
  split
  · exact h.still
  · exact h

theorem reportDrop (h : Keeping a s) {body : TxBody} : Keeping a (s.reportDrop body) := by
  cases body with
  | finding f n => exact h.recompute
  | _ => exact h.still

theorem collide (h : Keeping a s) : Keeping a s.collide := by
  unfold State.collide
  split
  · dsimp only
    split
    · exact h.still
    · split
      · exact h.still
      · exact reportDrop h.still
  · exact h

theorem deliverNote (h : Keeping a s) : Keeping a s.deliverNote := by
  unfold State.deliverNote
  split
  · exact h
  · exact recompute h.handEntry.still

theorem reportSent (h : Keeping a s) {body : TxBody} {clearTo : Option Int} :
    Keeping a (s.reportSent body clearTo) := by
  cases body with
  | finding f n => exact h.recompute
  | horizon =>
    unfold State.reportSent State.horizonSent
    dsimp only
    split
    · exact h
    · exact deliverNote h.still
  | _ => exact h

theorem sentWhole (h : Keeping a s) : Keeping a s.sentWhole := by
  unfold State.sentWhole
  split
  · dsimp only
    split
    · exact h.still
    · exact reportSent h.still
  · exact h

theorem frameBegins (h : Keeping a s) : Keeping a s.frameBegins := by
  unfold State.frameBegins
  split
  · exact h.still
  · exact h

theorem firstIdle (h : Keeping a s) : Keeping a s.firstIdle := by
  unfold State.firstIdle
  split
  · exact h.still
  · exact h

/-! ### Frames from peers -/

theorem hear (h : Keeping a s) {sender : Nat} : Keeping a (s.hear sender) := by
  unfold State.hear
  split
  · exact h
  · exact h.still

theorem liveChanged (h : Keeping a s) : Keeping a s.liveChanged := by
  unfold State.liveChanged
  split
  · exact h
  · exact h.recomputeHorizon.verdictDecision

theorem testFace (h : Keeping a s) {sender face : Nat} : Keeping a (s.testFace sender face) := by
  unfold State.testFace
  split
  · exact h.still
  · exact h

theorem handLeavingGap (h : Keeping a s) {p : Peer} : Keeping a (s.handLeavingGap p) := by
  unfold State.handLeavingGap
  split
  · exact h
  · exact h.handEntry

theorem setPeer (h : Keeping a s) {p : Peer} : Keeping a (s.setPeer p) := h.still

theorem reportMissed (h : Keeping a s) {missed sender : Nat} {p : Option Int} {q : Int} :
    Keeping a (s.reportMissed missed sender p q) := by
  unfold State.reportMissed
  split
  · exact h
  · exact handEntry h.still

theorem takeCutFrame (h : Keeping a s) {head : FrameHead} {body : List Byte} :
    Keeping a (State.takeCutFrame head body s) := by
  unfold State.takeCutFrame State.placeCut
  split
  · exact h
  · rename_i v hv
    split
    · split
      · exact h.hear.still
      · refine h.hear.takeCut ?_
        obtain ⟨peers, e⟩ := hear_footprint s head.sender
        rw [e]
        exact hv
    · exact h

theorem takeFindingFrame (h : Keeping a s) {head : FrameHead} {body : List Byte} :
    Keeping a (State.takeFindingFrame head body s) := by
  have hheard : Keeping a (s.hear head.sender) := h.hear
  unfold State.takeFindingFrame State.takePeerFinding
  split
  · split
    · exact hheard.still
    · split
      · exact hheard.still
      · refine (setPeer ?_).reportMissed.handEntry
        split
        · exact hheard.testFace
        · exact hheard
  · exact h

theorem stepOffset (h : Keeping a s) {v : Setup} {p : Peer} {offset : Int} :
    Keeping a (s.stepOffset v p offset) := by
  unfold State.stepOffset
  split
  · exact h.still
  · exact h

theorem stepNote (h : Keeping a s) {sender : Nat} {offset : Int} {note : Option (Int × Int)} :
    Keeping a (s.stepNote sender offset note) := by
  unfold State.stepNote
  split
  · exact h
  · exact h.handEntry

theorem stepCovering (h : Keeping a s) {p : Peer} {covering : Bool} {clearTo : Int} :
    Keeping a (s.stepCovering p covering clearTo) := by
  unfold State.stepCovering
  split
  · exact h.handEntry
  · exact h.closeGap
  · exact h

theorem fiveSteps (h : Keeping a s) {v : Setup} {p : Peer} {b : HorizonBody} :
    Keeping a (s.fiveSteps v p b) := by
  unfold State.fiveSteps
  dsimp only
  split
  · exact h.stepOffset.stepNote.reportMissed.stepCovering.setPeer.recomputeHorizon
  · exact h.stepOffset.stepNote.reportMissed.stepCovering.setPeer.recomputeHorizon.verdictDecision

theorem ensurePeer (h : Keeping a s) {sender : Nat} : Keeping a (s.ensurePeer sender) := by
  unfold State.ensurePeer
  split
  · exact h.hear
  · split <;> exact h.still

theorem takeHorizonFrame (h : Keeping a s) {head : FrameHead} {body : List Byte} :
    Keeping a (State.takeHorizonFrame head body s) := by
  unfold State.takeHorizonFrame
  split
  · exact h
  · dsimp only
    split
    · split
      · exact h.ensurePeer.fiveSteps
      · exact h.ensurePeer
    · exact h.ensurePeer

theorem takeVerdictFrame (h : Keeping a s) {head : FrameHead} {body : List Byte} :
    Keeping a (State.takeVerdictFrame head body s) := by
  unfold State.takeVerdictFrame
  split
  · exact h.hear.hearVerdict
  · exact h

theorem takeAnnounce (h : Keeping a s) {sender face : Nat} : Keeping a (s.takeAnnounce sender face) := by
  unfold State.takeAnnounce
  split
  · split
    · exact h.still
    · exact h.testFace.still
  · dsimp only
    split
    · exact h.testFace.handLeavingGap.setPeer.liveChanged
    · exact h.testFace.handLeavingGap.setPeer

theorem takeAnnounceFrame (h : Keeping a s) {head : FrameHead} {body : List Byte} :
    Keeping a (State.takeAnnounceFrame head body s) := by
  unfold State.takeAnnounceFrame
  split
  · exact h
  · split
    · exact h.hear.takeAnnounce
    · exact h.hear

/-! ### Timers of the horizon unit and of the mode controller -/

theorem takeSilence (h : Keeping a s) {id : Nat} : Keeping a (s.takeSilence id) := by
  unfold State.takeSilence State.silence
  split
  · exact h
  · split
    · dsimp only
      split
      · exact h.handLeavingGap.setPeer.liveChanged
      · exact h.handLeavingGap.setPeer
    · exact h

theorem takeHorizonTimer (h : Keeping a s) : Keeping a s.takeHorizonTimer := by
  unfold State.takeHorizonTimer
  split
  · split
    · exact handFrame h.still
    · exact h
  · exact h

theorem takeAnnounceTimer (h : Keeping a s) : Keeping a s.takeAnnounceTimer := by
  unfold State.takeAnnounceTimer
  split
  · exact h
  · split
    · dsimp only
      split
      · exact h.still
      · exact handFrame h.still
    · exact h

/-! ### Frames from stations -/

theorem takeStatusReqFrame (h : Keeping a s) {head : FrameHead} {body : List Byte} :
    Keeping a (State.takeStatusReqFrame head body s) := by
  have hreply : Keeping a (s.handFrame (s.statusFrame head.sender)) := h.handFrame
  unfold State.takeStatusReqFrame
  split
  · exact h
  · dsimp only
    split
    · exact hreply.still
    · exact hreply

theorem setupHorizon (h : Keeping a s) {v : Setup} : Keeping a (s.setupHorizon v) := by
  have hrise : Keeping a
      ({ s with hz := { s.hz with ownClearTo := s.newClearTo v } }.recomputeHorizon v) :=
    recomputeHorizon h.still
  exact openOwnGap hrise.still

theorem acceptSetup (h : Keeping a s) {v : Setup} (hv : 1 ≤ v.cutTolerance) :
    Keeping a (s.acceptSetup v) :=
  (setupHorizon (h.setup hv)).handFrame.startAll

/-! ### The hand-off of a qualified frame -/

/-- Whatever its class, a frame that has passed FORM keeps the laws; of a SETUP FORM asks a cut tolerance of at least 1
(R101). -/
theorem hand (h : Keeping a s) {c : FrameClass} {head : FrameHead} {body : List Byte}
    (hf : formOk c head body = true) : Keeping a (c.hand head body s) := by
  cases c with
  | cut => exact h.takeCutFrame
  | finding => exact h.takeFindingFrame
  | horizon => exact h.takeHorizonFrame
  | verdict => exact h.takeVerdictFrame
  | announce => exact h.takeAnnounceFrame
  | status => exact h
  | setup => exact h.acceptSetup (cutTolerance_of_formOk hf)
  | build => exact h.still
  | statusReq => exact h.takeStatusReqFrame
  | undefined => exact h

theorem receive (h : Keeping a s) {c : FrameClass} {f : RxFrame} :
    Keeping a (s.receive c f c.hand) := by
  have hend : Keeping a (s.load f).endFrame := h.still
  unfold State.receive
  split
  · exact h
  · split
    · exact h.firstIdle
    · split
      · exact hend.still
      · exact hend.still
      · exact hend
      · rename_i hq
        obtain ⟨hform, -⟩ := State.qualify_passed hq
        exact hend.hand hform

/-! ### Resets (R199) -/

/-- A reset begins with the output OFF. -/
theorem beginReset (h : Keeping a s) {cause : ResetCause} : Keeping a (s.beginReset cause) :=
  h.marked fun k => { k with output := nofun }

/-- A reset ends with marker unit and table as after power-on. -/
theorem endReset (a : State) {p : Straps} {cause : ResetCause} : Keeping a (s.endReset p cause) := by
  have hblocks : Keeping a (s.resetBlocks p cause) := ⟨fun _ => reset_markerInv, fun _ => reset_billetInv⟩
  unfold State.endReset
  dsimp only
  split
  · exact hblocks
  · exact hblocks.handFrame

/-! ### One command -/

theorem event {f : State → State} (hf : ∀ u, Keeping s u → Keeping s (f u)) {dt : Nat} {t : State}
    (e : Machine.event dt f s = .next t) : Keeping s t := by
  have hbegin : Keeping s (s.begin dt) := (refl s).still
  obtain rfl | ⟨-, rfl⟩ := event_cases e
  · exact hbegin
  · exact hf _ hbegin

theorem inputEvent {set : Pins → Pins} {f : State → State}
    (hf : ∀ u, Keeping s u → Keeping s (f u)) {dt : Nat} {t : State}
    (e : Machine.inputEvent dt set f s = .next t) : Keeping s t := by
  have hbegin : Keeping s { s.begin dt with pins := set s.pins } := (refl s).still
  obtain rfl | ⟨-, rfl⟩ := inputEvent_cases e
  · exact hbegin
  · exact hf _ hbegin

end Keeping

theorem exec_keeping {c : Instr} {s t : State} (e : exec c s = .next t) : Keeping s t := by
  have frame : ∀ (cl : FrameClass) {dt f}, exec (cl.command dt f) s = .next t → Keeping s t :=
    fun cl _ _ e => Keeping.event (fun _ h => h.receive) (exec_command cl _ _ s ▸ e)
  cases c with
  | encoderTransition dt a b =>
    rw [exec_encoderTransition] at e
    exact Keeping.inputEvent (fun _ h => h.takePair) e
  | strandRise dt =>
    rw [exec_strandRise] at e
    refine Keeping.inputEvent (fun _ h => ?_) e
    split
    · exact h
    · exact h.takeRise
  | strandFall dt =>
    rw [exec_strandFall] at e
    refine Keeping.inputEvent (fun _ h => ?_) e
    split
    · exact h.takeFall
    · exact h
  | dropoutTimerExpiry dt => exact Keeping.event (fun _ h => h.takeDropout) e
  | gateChange dt high =>
    rw [exec_gateChange] at e
    exact Keeping.inputEvent (fun _ h => h.takeGate) e
  | cutInputEdge dt high =>
    rw [exec_cutInputEdge] at e
    exact Keeping.inputEvent (fun _ h => h.takeCutLevel) e
  | lineArrival dt tag raw w => exact Keeping.event (fun _ h => h.takeArrival) e
  | lineTimeout dt => exact Keeping.event (fun _ h => h.takeLineTimeout) e
  | referenceReadout dt tag raw => exact Keeping.event (fun _ h => h.takeReadoutTag) e
  | readoutTimeout dt => exact Keeping.event (fun _ h => h.takeReadoutTimeout) e
  | probeTimerExpiry dt => exact Keeping.event (fun _ h => h.takeProbeTimer) e
  | probeTimeout dt => exact Keeping.event (fun _ h => h.takeProbeTimeout) e
  | probeArrival dt tag raw w => exact Keeping.event (fun _ h => h.takeArrival) e
  | tick dt => exact Keeping.event (fun _ h => h.takeTick) e
  | processedLine dt => exact Keeping.event (fun _ h => h.takeProcessed) e
  | transmitTry dt => exact Keeping.event (fun _ h => h.tryToSend) e
  | arbitrationLost dt => exact Keeping.event (fun _ h => h.loseArbitration) e
  | collision dt => exact Keeping.event (fun _ h => h.collide) e
  | frameSentWhole dt => exact Keeping.event (fun _ h => h.sentWhole) e
  | cutFrame dt f => exact frame .cut e
  | findingFrame dt f => exact frame .finding e
  | horizonFrame dt f => exact frame .horizon e
  | verdictFrame dt f => exact frame .verdict e
  | announceFrame dt f => exact frame .announce e
  | statusFrame dt f => exact frame .status e
  | setupFrame dt f => exact frame .setup e
  | buildFrame dt f => exact frame .build e
  | statusReqFrame dt f => exact frame .statusReq e
  | silenceTimerExpiry dt p => exact Keeping.event (fun _ h => h.takeSilence) e
  | horizonTimerExpiry dt => exact Keeping.event (fun _ h => h.takeHorizonTimer) e
  | announceTimerExpiry dt => exact Keeping.event (fun _ h => h.takeAnnounceTimer) e
  | powerOnReset dt =>
    injection e with e
    exact e ▸ Keeping.beginReset (Keeping.refl s).still
  | pinReset dt =>
    injection e with e
    exact e ▸ Keeping.beginReset (Keeping.refl s).still
  | resetEnd dt p =>
    obtain ⟨-, rfl⟩ | ⟨cause, -, rfl⟩ := resetEnd_cases e
    · exact (Keeping.refl s).still
    · exact .endReset s
  | newFrameBegins dt => exact Keeping.event (fun _ h => h.frameBegins) e
  | idleGapAfterReset dt => exact Keeping.event (fun _ h => h.firstIdle) e
  | frameOfUndefinedClass dt f => exact frame .undefined e

theorem step_keeping {s t : State} (h : step s = .next t) : Keeping s t :=
  step_of_exec .refl exec_keeping (fun _ k => Keeping.trans (Keeping.refl _).still k) h

/-- Settles O60: marks are fed, moved and started in line, cuts above every head and number held join the table, and no
other change reaches marks or places. -/
theorem billetsAndMarksAreKept : Obligations.BilletsAndMarksAreKept :=
  ⟨fun _ _ hs h => (step_keeping h).marks hs, fun _ _ hs h => (step_keeping h).billets hs⟩

end Sys2Proof.Machine
end

section
/-! SUPPORT. The start test and the output of the marker unit, one lemma for each thing a test or a transition can do
(O51). -/

namespace Sys2Proof.Machine

/-! ### The start history (R181, R182) -/

theorem windowFull_iff {now window : Nat} {history : List Nat} :
    windowFull now window history = true ↔
      4 ≤ history.length ∧ ∃ x ∈ history.head?, now ≤ x + window := by
  cases history with
  | nil => simp [windowFull]
  | cons oldest later => simp [windowFull, Config.historyLimit]

/-- A history with room, or with its oldest start before the window, lets a candidate start (R181). -/
theorem windowFull_eq_false {now window : Nat} {history : List Nat}
    (h : history.length < 4 ∨ ∃ x ∈ history.head?, x + window < now) :
    windowFull now window history = false := by
  rw [Bool.eq_false_iff, Ne, windowFull_iff]
  rintro ⟨hfour, y, hy, hwithin⟩
  obtain hroom | ⟨x, hx, hbefore⟩ := h
  · omega
  · obtain rfl : x = y := Option.mem_unique hx hy
    omega

theorem pushStart_eq (now : Nat) (history : List Nat) :
    pushStart now history = (if history.length < 4 then history else history.tail) ++ [now] := by
  unfold pushStart Config.historyLimit
  by_cases hroom : history.length < 4
  · rw [if_pos hroom, if_neg (by omega)]
  · rw [if_neg hroom, if_pos (by omega)]

/-! ### The start test on a queue (R179 to R182) -/

/-- The state as the mark `m` starts, `rest` waiting behind it (R182). -/
def State.started (s : State) (m : Mark) (rest : List Mark) : State :=
  { s with marker := { s.marker with
    queue := rest, active := some m, output := .on
    history := (if s.marker.history.length < 4 then s.marker.history
      else s.marker.history.tail) ++ [s.nodeTime] } }

section
variable {v : Setup} {before : Option Int} {m : Mark} {rest : List Mark} {s : State}

theorem startFrom_of_late (h : m.stop < s.travel.position) :
    startFrom v before (m :: rest) s = startFrom v before rest (s.count .markLate) := by
  rw [startFrom, if_pos h]

theorem startFrom_of_waiting (hend : s.travel.position ≤ m.stop)
    (h : s.travel.position < m.start ∨ s.marker.direction = .reverse) :
    startFrom v before (m :: rest) s = { s with marker := { s.marker with queue := m :: rest } } := by
  have hnot : ¬(m.start ≤ s.travel.position ∧ s.marker.direction = .forward) := by
    rintro ⟨hreached, hforward⟩
    obtain hbelow | hreverse := h
    · omega
    · rw [hforward] at hreverse
      cases hreverse
  rw [startFrom, if_neg hend.not_gt, if_neg hnot]

section
variable (hend : s.travel.position ≤ m.stop) (hreached : m.start ≤ s.travel.position)
  (hforward : s.marker.direction = .forward)
include hend hreached hforward

theorem startFrom_of_windowFull (hfull : windowFull s.nodeTime v.markWindow s.marker.history = true) :
    startFrom v before (m :: rest) s = startFrom v before rest (s.count .markSkipped) := by
  rw [startFrom, if_neg hend.not_gt, if_pos ⟨hreached, hforward⟩, if_pos hfull]

theorem startFrom_of_candidate (hroom : windowFull s.nodeTime v.markWindow s.marker.history = false) :
    startFrom v before (m :: rest) s = if before.any (· < m.start) then s.started m rest
      else (s.started m rest).count .markPartial := by
  rw [startFrom, if_neg hend.not_gt, if_pos ⟨hreached, hforward⟩, if_neg (by simp [hroom])]
  simp only [pushStart_eq, State.started]

end

/-- The queue that the state holds is not read: the test takes the one it is given. -/
theorem startFrom_setQueue (v : Setup) (before : Option Int) (q held : List Mark) (s : State) :
    startFrom v before q { s with marker := { s.marker with queue := held } } = startFrom v before q s := by
  induction q generalizing s with
  | nil => rfl
  | cons m rest ih =>
    have hlate := ih (s.count .markLate)
    have hskipped := ih (s.count .markSkipped)
    unfold startFrom
    split
    · exact hlate
    · split
      · split
        · exact hskipped
        · rfl
      · rfl

/-! ### The start test (R179) -/

theorem startTest_of_idle (hv : s.ctl.setup = some v) (hidle : s.marker.active = none) :
    s.startTest before = startFrom v before s.marker.queue s := by
  simp [State.startTest, hv, hidle]

/-- After a removal the test is made again on the marks left (R180, R181). -/
theorem startTest_after_removal (hv : s.ctl.setup = some v) (hidle : s.marker.active = none) (c : Counter) :
    ({ s with marker := { s.marker with queue := rest } }.count c).startTest before
      = startFrom v before rest (s.count c) :=
  (startTest_of_idle (s := { s with marker := { s.marker with queue := rest } }.count c) hv hidle).trans
    (startFrom_setQueue v before rest rest (s.count c))

theorem startTest_of_active (h : s.marker.active.isSome = true) : s.startTest before = s := by
  unfold State.startTest
  split
  · rfl
  · rw [if_pos h]

theorem startTest_of_empty (h : s.marker.queue = []) : s.startTest before = s := by
  cases hv : s.ctl.setup with
  | none => simp [State.startTest, hv]
  | some v =>
    cases hactive : s.marker.active with
    | some a => exact startTest_of_active (by rw [hactive, Option.isSome_some])
    | none => rw [startTest_of_idle hv hactive, h, startFrom, ← h]

section
variable (hv : s.ctl.setup = some v) (hidle : s.marker.active = none) (hq : s.marker.queue = m :: rest)
include hv hidle hq

theorem startTest_of_late (h : m.stop < s.travel.position) :
    s.startTest before
      = ({ s with marker := { s.marker with queue := rest } }.count .markLate).startTest before := by
  rw [startTest_of_idle hv hidle, hq, startFrom_of_late h, startTest_after_removal hv hidle]

theorem startTest_of_waiting (hend : s.travel.position ≤ m.stop)
    (h : s.travel.position < m.start ∨ s.marker.direction = .reverse) : s.startTest before = s := by
  rw [startTest_of_idle hv hidle, hq, startFrom_of_waiting hend h, ← hq]

section
variable (hend : s.travel.position ≤ m.stop) (hreached : m.start ≤ s.travel.position)
  (hforward : s.marker.direction = .forward)
include hend hreached hforward

theorem startTest_of_windowFull (hfull : windowFull s.nodeTime v.markWindow s.marker.history = true) :
    s.startTest before
      = ({ s with marker := { s.marker with queue := rest } }.count .markSkipped).startTest before := by
  rw [startTest_of_idle hv hidle, hq, startFrom_of_windowFull hend hreached hforward hfull,
    startTest_after_removal hv hidle]

section
variable (hroom : windowFull s.nodeTime v.markWindow s.marker.history = false)
include hroom

/-- On time: a forward transition brings the strand from below the mark's start (R179). -/
theorem startTest_on_time {q : Int} (hbefore : before = some q) (hbelow : q < m.start) :
    s.startTest before = s.started m rest := by
  rw [startTest_of_idle hv hidle, hq, startFrom_of_candidate hend hreached hforward hroom,
    if_pos (by simp [hbefore, hbelow])]

/-- Partial: no transition, or one from the mark's start or above it (R179). -/
theorem startTest_partial (hpast : ∀ q, before = some q → m.start ≤ q) :
    s.startTest before = (s.started m rest).count .markPartial := by
  have hnot : ¬before.any (· < m.start) = true := by
    rw [Option.any_eq_true]
    rintro ⟨q, hbefore, hbelow⟩
    exact (hpast q hbefore).not_gt (of_decide_eq_true hbelow)
  rw [startTest_of_idle hv hidle, hq, startFrom_of_candidate hend hreached hforward hroom, if_neg hnot]

end
end
end
end

/-! ### The output and the active mark after a transition (R183, R184) -/

section
variable {u : MarkerUnit} {a : Mark} {p : Int}

theorem follow_of_idle (h : u.active = none) (dir : Direction) : u.follow dir p = { u with direction := dir } := by
  rw [MarkerUnit.follow, h]

section
variable (h : u.active = some a)
include h

theorem follow_reverse : u.follow .reverse p = { u with direction := .reverse, output := .off } := by
  rw [MarkerUnit.follow, h]

theorem follow_forward_of_past (hpast : a.stop < p) :
    u.follow .forward p = { u with direction := .forward, output := .off, active := none } := by
  simp only [MarkerUnit.follow, h, if_pos hpast]

theorem follow_forward_of_le (hend : p ≤ a.stop) : u.follow .forward p
    = { u with direction := .forward, output := if a.start ≤ p then .on else .off } := by
  simp only [MarkerUnit.follow, h, if_neg hend.not_gt]
  by_cases hreached : a.start ≤ p
  · rw [if_neg hreached.not_gt, if_pos hreached]
  · rw [if_pos (not_le.mp hreached), if_neg hreached]

end
end

/-- Settles O51: the start test by what it does to the head of the queue (late, waiting, started on time or partial,
skipped), and the output by the active mark's range and the direction of the transition. -/
theorem marksStartAndFollowThePosition : Obligations.MarksStartAndFollowThePosition := by
  refine ⟨fun s v m rest before hv hidle hq => ⟨startTest_of_late hv hidle hq, startTest_of_waiting hv hidle hq,
    fun hend hreached hforward => ⟨?started, ?skipped⟩⟩, fun s before h => ?nothing, fun s dir q => rfl,
    fun u dir p h => follow_of_idle h dir,
    fun u a p h => ⟨follow_reverse h, follow_forward_of_past h, follow_forward_of_le h⟩⟩
  case started =>
    rintro _ hwindow rfl
    have hroom := windowFull_eq_false hwindow
    exact ⟨fun q => startTest_on_time hv hidle hq hend hreached hforward hroom,
      startTest_partial hv hidle hq hend hreached hforward hroom⟩
  case skipped =>
    exact fun hfour hwithin =>
      startTest_of_windowFull hv hidle hq hend hreached hforward (windowFull_iff.mpr ⟨hfour, hwithin⟩)
  case nothing => exact h.elim startTest_of_empty startTest_of_active

end Sys2Proof.Machine
end

section
/-! SUPPORT. A reset in progress (O3), its beginning and its end (O47). -/

namespace Sys2Proof.Machine

variable {s : State} {c : Instr}

/-! ### While a reset is in progress (R199; log 4) -/

/-- Every command but the three of R199 passes the reset gate, with the levels it brings or with none. -/
theorem exec_gated (hc : ofReset c = false) (s : State) :
    (∃ dt f, exec c s = inputEvent dt (levelsAfter c) f s)
      ∨ ∃ dt f, exec c s = event dt f s ∧ levelsAfter c s.pins = s.pins := by
  cases c with
  | powerOnReset | pinReset | resetEnd => nomatch hc
  | encoderTransition dt a b => exact .inl ⟨_, _, exec_encoderTransition dt a b s⟩
  | strandRise dt => exact .inl ⟨_, _, exec_strandRise dt s⟩
  | strandFall dt => exact .inl ⟨_, _, exec_strandFall dt s⟩
  | gateChange dt high => exact .inl ⟨_, _, exec_gateChange dt high s⟩
  | cutInputEdge dt high => exact .inl ⟨_, _, exec_cutInputEdge dt high s⟩
  | lineArrival _ tag raw withheld | probeArrival _ tag raw withheld =>
    exact .inr ⟨_, (State.takeArrival · tag raw withheld), rfl, rfl⟩
  | referenceReadout dt tag raw => exact .inr ⟨_, _, exec_referenceReadout dt tag raw s, rfl⟩
  | silenceTimerExpiry _ peer => exact .inr ⟨_, (State.takeSilence · peer), rfl, rfl⟩
  | _ => exact .inr ⟨_, _, rfl, rfl⟩

theorem exec_resetting (hr : s.resetting.isSome = true) (hc : ofReset c = false) :
    ∃ dt, exec c s = .next { s.begin dt with pins := levelsAfter c s.pins } := by
  obtain ⟨dt, f, e⟩ | ⟨dt, f, e, hpins⟩ := exec_gated hc s
  · exact ⟨dt, e.trans (inputEvent_resetting hr dt _ f)⟩
  · exact ⟨dt, by rw [e, event_resetting hr, hpins]; rfl⟩

/-- Settles O3: the reset gate lets time and levels through, and node time is held at its limit. -/
theorem onlyInputLevelsFollowDuringAReset : Obligations.OnlyInputLevelsFollowDuringAReset := by
  intro c s hr hc
  obtain ⟨dt, e⟩ := exec_resetting hr hc
  exact ⟨min (s.nodeTime + dt) (2 ^ 48 - 1), e, min_le_right _ _,
    fun hlimit => le_min (Nat.le_add_right _ _) hlimit⟩

/-! ### The beginning (R199) -/

/-- POWER stands over PIN. -/
theorem startedCause_eq (running : Option ResetCause) (kind : ResetCause) :
    startedCause running kind = if running = some .power then .power else kind := by
  rcases running with _ | _ | _ <;> rfl

theorem exec_powerOnReset (dt : Nat) (s : State) :
    exec (.powerOnReset dt) s = .next ((s.begin dt).beginReset .power) := rfl

theorem exec_pinReset (dt : Nat) (s : State) :
    exec (.pinReset dt) s = .next ((s.begin dt).beginReset .pin) := rfl

/-! ### The end (R188, R190, R199) -/

theorem exec_resetEnd_running (hr : s.resetting = none) (dt : Nat) (p : Straps) :
    exec (.resetEnd dt p) s = .next (s.begin dt) := by
  show execResetEnd dt p s = _
  rw [execResetEnd, hr]

theorem exec_resetEnd_resetting {kind : ResetCause} (hr : s.resetting = some kind) (dt : Nat) (p : Straps) :
    exec (.resetEnd dt p) s = .next (s.endReset p kind) := by
  show execResetEnd dt p s = _
  rw [execResetEnd, hr]

theorem strapStrand_eq (p : Straps) :
    strapStrand p = 4 * p.strand2.toNat + 2 * p.strand1.toNat + p.strand0.toNat + 1 := by
  simp [strapStrand, bitValue_eq]

theorem strapFace_eq (p : Straps) : strapFace p = 2 * p.face1.toNat + p.face0.toNat := by
  simp [strapFace, bitValue_eq]

theorem endReset_of_id_zero {p : Straps} (h : strapId p = 0) (s : State) (kind : ResetCause) :
    s.endReset p kind = s.resetBlocks p kind := if_pos h

/-- The ANNOUNCE is the one frame of the queue (R190). -/
theorem endReset_of_strapped {p : Straps} (h : strapId p ≠ 0) (s : State) (kind : ResetCause) :
    s.endReset p kind = { s.resetBlocks p kind with
      xcvr := { State.reset.xcvr with queue := [(s.resetBlocks p kind).announce], send := .waiting } } :=
  (if_neg h).trans (handFrame_other (.inl nofun))

/-- Whatever the ID, the end of a reset writes beside the reset values queue and send state alone. -/
theorem endReset_eq (s : State) (p : Straps) (kind : ResetCause) :
    s.endReset p kind = { s.resetBlocks p kind with
      xcvr := { State.reset.xcvr with
        queue := (s.endReset p kind).xcvr.queue, send := (s.endReset p kind).xcvr.send } } := by
  by_cases h : strapId p = 0
  · rw [endReset_of_id_zero h]
    rfl
  · rw [endReset_of_strapped h]

theorem endReset_ctl (s : State) (p : Straps) (kind : ResetCause) :
    (s.endReset p kind).ctl = strapController p kind := by
  rw [endReset_eq]
  rfl

/-- A pin reset keeps flags and counters (R208). -/
theorem resetBlocks_diag (s : State) (p : Straps) (kind : ResetCause) :
    (s.resetBlocks p kind).diag = if kind = .pin then s.diag else State.reset.diag := by
  cases kind <;> rfl

/-- The state after the end of a reset, as the statement names it. -/
theorem endReset_blocks (s : State) (p : Straps) (kind : ResetCause) {t : State} (ht : s.endReset p kind = t) :
    t = { State.reset with
      pending := s.pending, freeDraws := s.freeDraws, pins := s.pins, ctl := t.ctl
      travel := { State.reset.travel with
        phase := (s.pins.encA, s.pins.encB), cutLevel := s.pins.cut
        strand := if s.pins.strand then .asserted else .clear }
      xcvr := { State.reset.xcvr with queue := t.xcvr.queue, send := t.xcvr.send }
      diag := if kind = .pin then s.diag else State.reset.diag } := by
  subst ht
  rw [← resetBlocks_diag s p, endReset_ctl]
  exact endReset_eq s p kind

/-- Settles O47: the beginning by which cause stands, the end by the ID that the straps give. -/
theorem resetsBeginAndEnd : Obligations.ResetsBeginAndEnd := by
  refine ⟨?begins, fun dt s p id hid => ⟨fun hr => exec_resetEnd_running hr dt p, fun kind hr =>
    ⟨_, exec_resetEnd_resetting hr dt p, endReset_blocks s p kind rfl, ?_⟩⟩⟩
  case begins =>
    rintro dt s c kind (⟨rfl, rfl⟩ | ⟨rfl, rfl⟩)
    · rw [exec_powerOnReset, ← startedCause_eq]
      rfl
    · rw [exec_pinReset, ← startedCause_eq]
      rfl
  obtain rfl : id = strapId p := hid
  rw [endReset_ctl]
  refine ⟨strapStrand_eq p, strapFace_eq p, rfl, rfl, rfl, fun hzero => ?unstrapped, fun hpos => ?strapped⟩
  case unstrapped =>
    rw [endReset_of_id_zero hzero]
    exact ⟨if_pos hzero, if_pos hzero, if_pos hzero, rfl, rfl⟩
  case strapped =>
    have hne : strapId p ≠ 0 := Nat.one_le_iff_ne_zero.mp hpos
    have hmode : (strapController p kind).mode = .unconfigured := if_neg hne
    have hnode : (strapController p kind).nodeId = some (strapId p) := if_neg hne
    refine ⟨hmode, hnode, if_neg hne, by rw [endReset_of_strapped hne], ?_⟩
    rw [endReset_of_strapped hne, ← hmode, ← Option.getD_some (a := strapId p) (b := 0), ← hnode]
    rfl

end Sys2Proof.Machine
end

section
/-! SUPPORT. An accepted SETUP (O44): what the blocks take up, what the horizon unit makes of it, and what is left
to reports. -/

namespace Sys2Proof.Machine

variable {s t : State}

/-! ### What is only reported -/

theorem handFrame_aftermath (s : State) (f : TxFrame) : Aftermath s (s.handFrame f) := by
  obtain ⟨x, d, h⟩ := s.handFrame_footprint f
  obtain ⟨q, n, hx⟩ := (s.handFrame_reports f).xcvr
  refine ⟨⟨⟨s.hz.ownClearTo, s.hz.horizon, s.record, s.billet, s.marker, q, n, d⟩, rfl, ?_⟩,
    s.handFrame_flags f⟩
  unfold State.reported
  rw [← hx, h]

/-- The own GAP opens and the record floor is set after reports: beside the GAP these are reports as well. -/
theorem Aftermath.openOwnGap (h : Aftermath s t) (b : BilletUnit) (v : Setup) :
    Aftermath { s with hz := { s.hz with ownGap := some (s.frontier v) } }
      ({ t with billet := b }.openOwnGap v) := by
  obtain ⟨⟨p, hp, rfl⟩, hf⟩ := h
  exact (handEntry_aftermath _ _).after ⟨⟨{ p with billet := b }, hp, rfl⟩, hf⟩

/-- The all-segment reference may as well be asked for before what is reported. -/
theorem Aftermath.startAll (h : Aftermath s t) (hr : s.head.reference = none) :
    Aftermath s.startAll t.startAll := by
  obtain ⟨⟨p, hp, rfl⟩, hf⟩ := h
  rw [startAll_of_none hr, startAll_of_none (s := s.reported p) hr]
  exact ⟨⟨p, hp, rfl⟩, hf⟩

/-! ### The blocks, and the horizon unit after them (R191, R192) -/

/-- The values and the mode taken up, and every block's column of SETUP but for the horizons, the own GAP, the
record floor and the all-segment request. -/
def State.setupTaken (s : State) (v : Setup) : State :=
  (State.setupTravel { s with ctl := { s.ctl with
    setup := some v, mode := .referencing, announceTimer := none, covering := false } } v).setupBlocks v

/-- The own clear-to computed from its terms (R81). -/
def State.clearToComputed (s : State) (v : Setup) : State :=
  { s with hz := { s.hz with ownClearTo := s.newClearTo v } }

/-- The own clear-to computed and the own GAP opened at the line frontier (R121). -/
def State.gapOpened (s : State) (v : Setup) : State :=
  { s with hz := { s.hz with ownClearTo := s.newClearTo v, ownGap := some (s.frontier v) } }

theorem setupHorizon_eq (s : State) (v : Setup) : s.setupHorizon v
    = State.openOwnGap { (s.clearToComputed v).recomputeHorizon v with billet := {
        ((s.clearToComputed v).recomputeHorizon v).billet with
          floor := some ((s.clearToComputed v).recomputeHorizon v).hz.horizon } } v := rfl

theorem acceptSetup_eq (s : State) (v : Setup) : s.acceptSetup v
    = (((s.setupTaken v).setupHorizon v).handFrame ((s.setupTaken v).setupHorizon v).announce).startAll := rfl

/-- Beside own clear-to and own GAP the horizon unit's part is reports alone. -/
theorem setupHorizon_aftermath (s : State) (v : Setup) :
    Aftermath (s.gapOpened v) (s.setupHorizon v) :=
  (recomputeHorizon_aftermath (s.clearToComputed v) v).openOwnGap _ v

/-- Beside own clear-to, own GAP and the all-segment request all else is reports. -/
theorem acceptSetup_aftermath (hr : s.head.reference = none) (v : Setup) :
    Aftermath ((s.setupTaken v).gapOpened v).startAll (s.acceptSetup v) :=
  ((handFrame_aftermath _ _).after (setupHorizon_aftermath _ v)).startAll hr

/-- Once the all-segment reference is asked for, all else is reports. -/
theorem acceptSetup_reported (hr : s.head.reference = none) (v : Setup) : ∃ p, s.acceptSetup v
    = (State.requestReference { (s.setupTaken v).gapOpened v with sched := { (s.setupTaken v).sched with
        allRunning := true, accum := List.replicate Config.columns 0 } } .all).reported p := by
  obtain ⟨⟨p, -, e⟩, -⟩ := acceptSetup_aftermath hr v
  rw [startAll_of_none (s := (s.setupTaken v).gapOpened v) hr] at e
  exact ⟨p, e⟩

/-- Own clear-to, then the strand horizon from it, then the own GAP at the line frontier (R81, R121, R122). -/
theorem setupHorizon_hz (s : State) (v : Setup) :
    (s.setupHorizon v).hz = { (s.gapOpened v).hz with horizon := (s.clearToComputed v).newHorizon } := by
  obtain ⟨r, b, m, x, d, e⟩ := (s.clearToComputed v).recomputeHorizon_footprint v
  rw [setupHorizon_eq, State.openOwnGap, handEntry_hz, e]
  rfl

/-- Neither the ANNOUNCE nor the all-segment request touches the horizon unit. -/
theorem acceptSetup_hz (s : State) (v : Setup) :
    (s.acceptSetup v).hz = { ((s.setupTaken v).gapOpened v).hz with
      horizon := ((s.setupTaken v).clearToComputed v).newHorizon } := by
  obtain ⟨x, d, hf⟩ := ((s.setupTaken v).setupHorizon v).handFrame_footprint _
  obtain ⟨h, c, k, hs⟩ := State.startAll_footprint (((s.setupTaken v).setupHorizon v).handFrame _)
  rw [acceptSetup_eq, hs, hf]
  exact setupHorizon_hz (s.setupTaken v) v

/-! ### Own clear-to, own GAP and strand horizon where nothing holds them back (R81, R82, R122) -/

theorem silenced_state (p : Peer) : p.silenced.state = .silent := rfl

/-- No record becomes LIVE by the start of its silence timer (R109). -/
theorem startSilence_not_live {p : Peer} (h : p.state ≠ .live) (now timeout : Nat) :
    (p.startSilence now timeout).state ≠ .live := by
  unfold Peer.startSilence
  split
  · rw [silenced_state]
    decide
  · exact h

theorem liveClearTos_of_none_live {peers : List Peer} (h : ∀ p ∈ peers, p.state ≠ .live) :
    liveClearTos peers = [] :=
  List.filterMap_eq_nil_iff.mpr fun p hp => if_neg (h p hp)

theorem newHorizon_of_none_live (h : ∀ p ∈ s.hz.peers, p.state ≠ .live) :
    s.newHorizon = max s.hz.horizon s.hz.ownClearTo := by
  unfold State.newHorizon
  rw [liveClearTos_of_none_live h]
  rfl

theorem setupTaken_none_live (h : ∀ p ∈ s.hz.peers, p.state ≠ .live) (v : Setup) :
    ∀ p ∈ (s.setupTaken v).hz.peers, p.state ≠ .live := by
  intro p hp
  obtain ⟨q, hq, rfl⟩ := List.mem_map.mp hp
  exact startSilence_not_live (h q hq) _ _

theorem frontier_of_none_unfinished (h : s.unfinished = []) (hm : s.ctl.mode ≠ .inspecting) (v : Setup) :
    s.frontier v = floorTo v.linePitch s.travel.highWater := by
  unfold State.frontier
  rw [h, if_neg hm]
  rfl

theorem clearToTerm_of_none (hslots : s.traceFirsts = []) (hnotes : s.hz.notes = [])
    (hqueue : s.xcvr.queue.filterMap TxFrame.findingStart = []) (v : Setup) :
    s.clearToTerm v = s.frontier v := by
  unfold State.clearToTerm
  rw [hslots, hnotes, hqueue]
  rfl

/-- SETUP leaves no line in flight, so that only lines awaiting the tracer could hold the line frontier back. -/
theorem setupTaken_frontier (h : s.tracer.awaiting = []) (v : Setup) :
    (s.setupTaken v).frontier v = floorTo v.linePitch (s.setupTaken v).travel.highWater := by
  have hunfinished : (s.setupTaken v).unfinished = [] := by
    show s.tracer.awaiting.map ProcessedLine.position = []
    rw [h]
    rfl
  have hmode : (s.setupTaken v).ctl.mode = .referencing := rfl
  exact frontier_of_none_unfinished hunfinished (by rw [hmode]; decide) v

/-! ### Record, billet and marker unit where nothing is held (R141, R171) -/

/-- No billet, no entry, no overflow range. -/
structure State.Bare (s : State) : Prop where
  billets : s.billet.billets = []
  record : s.record = { pending := [], overflow := none, entries := [] }

theorem State.Bare.of_empty (hb : s.billet.billets = []) (hp : s.record.pending = [])
    (ho : s.record.overflow = none) (he : s.record.entries = []) : s.Bare where
  billets := hb
  record := by
    show RecordUnit.mk s.record.pending s.record.overflow s.record.entries = _
    rw [hp, ho, he]

theorem State.Bare.room (h : s.Bare) : s.record.entries.length < 256 := by
  rw [h.record]
  decide

theorem State.Bare.billetRise (h : s.Bare) (v : Setup) : s.billetRise v = s := by
  have hfall : s.billet.billets.map (Billet.fallDue s.hz.horizon) = s.billet.billets := by
    rw [h.billets]
    rfl
  have hnone : ∀ b ∈ s.billet.billets, b.state ≠ .due := by simp [h.billets]
  unfold State.billetRise
  rw [hfall]
  exact verdictDecision_of_none_due hnone

theorem State.Bare.commitBelow (h : s.Bare) (v : Setup) (horizon : Int) : s.commitBelow v horizon = s := by
  have hover : s.record.overflow = none := by rw [h.record]
  have hpend : s.record.pending = [] := by rw [h.record]
  have hroom : s.record.entries.length + s.record.pending.length ≤ 256 := by
    rw [hpend]
    exact h.room.le
  rw [commitBelow_appends h.billets hover (by simp [hpend]) hroom]
  simp only [h.record, List.filter_nil, List.append_nil]
  rw [← h.record]

/-- A rise finds nothing to commit and no billet to fall DUE. -/
theorem State.Bare.recomputeHorizon (h : s.Bare) (v : Setup) :
    s.recomputeHorizon v = { s with hz := { s.hz with horizon := s.newHorizon } } := by
  have hrisen : State.Bare { s with hz := { s.hz with horizon := s.newHorizon } } := ⟨h.billets, h.record⟩
  unfold State.recomputeHorizon
  split
  · rw [hrisen.commitBelow, hrisen.billetRise]
  · rename_i hrise
    rw [show s.newHorizon = s.hz.horizon from le_antisymm (not_lt.mp hrise) (le_max_left _ _)]

/-- A GAP handed to a record with room reaches no unit but the record unit. -/
theorem handEntry_gap_footprint (hroom : s.record.entries.length < 256) (face subject : Nat) (start : Int)
    (stop : Option Int) :
    ∃ r d, s.handEntry (.gap face subject start stop) = { s with record := r, diag := d } := by
  by_cases hlate : (Entry.gap face subject start stop).start < s.hz.horizon
  · obtain ⟨r, he⟩ := State.evict_footprint ((s.count .late).enterLate (.gap face subject start stop))
    rw [enterLate_of_room (s := s.count .late) hroom] at he
    rw [handEntry_of_late rfl hlate, takeLate_eq, enterLate_of_room (s := s.count .late) hroom]
    exact ⟨r, _, he⟩
  · rw [handEntry_of_timely rfl (not_lt.mp hlate)]
    exact s.toPending_footprint _

/-- Where nothing is held the record floor takes the strand horizon, and the record unit alone is handed the GAP. -/
theorem State.Bare.setupHorizon (h : s.Bare) (v : Setup) :
    ∃ r d, s.setupHorizon v = { s.gapOpened v with
      hz := { (s.gapOpened v).hz with horizon := (s.clearToComputed v).newHorizon }
      billet := { s.billet with floor := some (s.clearToComputed v).newHorizon }
      record := r, diag := d } := by
  have hcomputed : (s.clearToComputed v).Bare := ⟨h.billets, h.record⟩
  rw [setupHorizon_eq, hcomputed.recomputeHorizon]
  exact handEntry_gap_footprint (s := { s.gapOpened v with
    hz := { (s.gapOpened v).hz with horizon := (s.clearToComputed v).newHorizon }
    billet := { s.billet with floor := some (s.clearToComputed v).newHorizon } }) h.room _ _ _ _

/-- Where nothing is held and the queue has room, the record floor is the strand horizon, the marker unit has its
column of SETUP and the ANNOUNCE joins the queue (R171, R187, R191). -/
theorem State.Bare.acceptSetup (h : s.Bare) (hroom : s.xcvr.queue.length < 16) (v : Setup) {t : State}
    (ht : s.acceptSetup v = t) :
    t.billet.floor = some t.hz.horizon ∧ t.marker = { s.marker with active := none, output := .off }
    ∧ t.xcvr.queue = s.xcvr.queue
      ++ [toAll false (.announce s.ownId s.ctl.strand s.ctl.face s.ctl.cause .referencing)] := by
  have htaken : (s.setupTaken v).Bare := ⟨h.billets, h.record⟩
  obtain ⟨r, d, e⟩ := htaken.setupHorizon v
  have hjoins := handFrame_other (s := (s.setupTaken v).setupHorizon v)
    (f := ((s.setupTaken v).setupHorizon v).announce) (.inl nofun)
  rw [if_neg (by rw [e]; exact not_le.mpr hroom)] at hjoins
  obtain ⟨p, c, k, hs⟩ :=
    (((s.setupTaken v).setupHorizon v).handFrame ((s.setupTaken v).setupHorizon v).announce).startAll_footprint
  rw [← ht, acceptSetup_eq, hs, hjoins, e]
  exact ⟨rfl, rfl, rfl⟩

/-! ### The statement -/

theorem inRange_of_passes {f : RxFrame} {h : FrameHead} {body : List Byte} (hp : Passes s .setup f h body) :
    (parseSetup body).inRange = true := by
  obtain ⟨-, hq⟩ := hp
  obtain ⟨hform, -⟩ := State.qualify_passed hq
  simp only [formOk, FrameClass.bodyOk, Bool.and_eq_true] at hform
  obtain ⟨-, hrange, -⟩ := hform
  exact hrange

/-- Settles O44: own clear-to, own GAP and the all-segment request stand beside what the blocks take up, and the
rest is reports, which leave floor, marker and queue to SETUP where nothing is held. -/
theorem setupIsTakenUp : Obligations.SetupIsTakenUp := by
  intro dt s f h body v hp hv href
  have hrange := inRange_of_passes hp
  rw [← hv] at hrange
  have e : exec (.setupFrame dt f) s = .next ((s.frameOver dt).acceptSetup v) := by
    rw [hv]
    exact exec_command_passed hp dt
  have hhz := acceptSetup_hz (s.frameOver dt) v
  obtain ⟨p, hreported⟩ := acceptSetup_reported (s := s.frameOver dt) href v
  have htravel : ((s.frameOver dt).acceptSetup v).travel = ((s.frameOver dt).setupTaken v).travel := by
    rw [hreported]
    rfl
  refine ⟨_, e, ?frame, hrange, fun hlive => ?horizon, fun hawait => ⟨?gap, fun hslots hnotes hqueue => ?clearTo⟩,
    fun hb hpend hover hentries hroom => ?bare⟩
  case frame =>
    have hgate : gateOf (some v) s.pins.gate = if s.pins.gate && v.gateUsed then .shut else .opened :=
      gateOf_eq _ _
    rw [hreported, ← hgate]
    rfl
  case horizon =>
    rw [hhz]
    exact newHorizon_of_none_live (setupTaken_none_live (s := s.frameOver dt) hlive v)
  case gap =>
    rw [hhz, htravel, ← setupTaken_frontier (s := s.frameOver dt) hawait]
    rfl
  case clearTo =>
    rw [hhz, htravel, ← setupTaken_frontier (s := s.frameOver dt) hawait,
      ← clearToTerm_of_none (s := (s.frameOver dt).setupTaken v) hslots hnotes hqueue]
    rfl
  case bare =>
    exact (State.Bare.of_empty (s := s.frameOver dt) hb hpend hover hentries).acceptSetup hroom v rfl

end Sys2Proof.Machine
end

section
/-! SUPPORT. Bodies as fields laid one behind the other (R205, R206), and that a receiver reads them back
(O32). -/

namespace Sys2Proof.Machine

/-! ### Fields laid one behind the other (R204) -/

/-- The bytes of fields, each given by its number of bytes and its value. -/
def layOut (fields : List (Nat × Nat)) : List Byte := fields.flatMap fun f => bytesBE f.1 f.2

/-- How many bytes fields take. -/
def widthOf (fields : List (Nat × Nat)) : Nat := (fields.map Prod.fst).sum

theorem length_layOut (fields : List (Nat × Nat)) : (layOut fields).length = widthOf fields := by
  unfold layOut widthOf
  simp only [List.length_flatMap, length_bytesBE]

/-- The `k`-th field comes back from behind the fields before it, when its value fits its place. -/
theorem fieldAt_layOut {fields : List (Nat × Nat)} {k i n v : Nat} (hk : fields[k]? = some (n, v))
    (hi : widthOf (fields.take k) = i) (hv : v < 256 ^ n) : fieldAt (layOut fields) i n = v := by
  have hsplit : layOut fields
      = layOut (fields.take k) ++ (bytesBE n v ++ layOut (fields.drop (k + 1))) := by
    obtain ⟨hlt, hget⟩ := List.getElem?_eq_some_iff.mp hk
    calc layOut fields
        = layOut (fields.take k ++ fields.drop k) := by rw [List.take_append_drop]
      _ = layOut (fields.take k ++ (n, v) :: fields.drop (k + 1)) := by
          rw [List.drop_eq_getElem_cons hlt, hget]
      _ = _ := List.flatMap_append
  rw [hsplit, fieldAt_append ((length_layOut _).trans hi) (length_bytesBE n v), natBE_bytesBE,
    Nat.mod_eq_of_lt hv]

theorem bits32_lt (v : Int) : bits32 v < 256 ^ 4 := by
  unfold bits32
  omega

theorem bits32_of_nonneg {v : Int} (hlo : 0 ≤ v) (hhi : v < 2 ^ 31) : (bits32 v : Int) = v := by
  unfold bits32
  omega

theorem positionAt_layOut {fields : List (Nat × Nat)} {k i : Nat} {v : Int}
    (hk : fields[k]? = some (4, bits32 v)) (hi : widthOf (fields.take k) = i)
    (hlo : -(2 ^ 31) ≤ v) (hhi : v < 2 ^ 31) : positionAt (layOut fields) i = v := by
  unfold positionAt
  rw [fieldAt_layOut hk hi (bits32_lt v), signed32_bits32 hlo hhi]

/-! ### Bits of a byte and codes (R204 to R206) -/

theorem bitAt_eq_testBit (n i : Nat) : bitAt n i = n.testBit i :=
  (Nat.testBit_eq_decide_div_mod_eq).symm

theorem bitAt_ofBits {n : Nat} (bits : Fin n → Bool) (i : Fin n) : bitAt (Nat.ofBits bits) i = bits i := by
  rw [bitAt_eq_testBit, Nat.testBit_ofBits_lt bits i i.isLt]

/-- A sum of bit values is the number with those bits. -/
theorem sum_bitValue {n : Nat} (bits : Fin n → Bool) :
    ∑ i : Fin n, bitValue (bits i) i = Nat.ofBits bits := by
  induction n with
  | zero => rfl
  | succ n ih =>
    have hdouble (i : Fin n) : bitValue (bits i.succ) i.succ = 2 * bitValue (bits i.succ) i := by
      rw [bitValue_eq, bitValue_eq, Fin.val_succ, pow_succ', Nat.mul_assoc]
    have hlow : bitValue (bits 0) (0 : Fin (n + 1)) = (bits 0).toNat := by
      rw [bitValue_eq, Fin.val_zero, pow_zero, Nat.one_mul]
    rw [Fin.sum_univ_succ, hlow, Finset.sum_congr rfl fun i _ => hdouble i, ← Finset.mul_sum,
      ih fun i => bits i.succ, Nat.ofBits_succ, Nat.add_comm]
    rfl

/-- The flags of a finding in the order of their bits. -/
def FindingFlags.bits (f : FindingFlags) : Fin 8 → Bool :=
  ![f.unverified, f.branched, f.continued, f.interrupted, f.cornerLow, f.cornerHigh, f.crowded, f.held]

theorem FindingFlags.code_eq_ofBits (f : FindingFlags) : f.code = Nat.ofBits f.bits :=
  (Fin.sum_univ_eight _).symm.trans (sum_bitValue f.bits)

theorem FindingFlags.code_lt (f : FindingFlags) : f.code < 256 := by
  rw [f.code_eq_ofBits]
  exact Nat.ofBits_lt_two_pow f.bits

theorem findingFlagsOf_code (f : FindingFlags) : findingFlagsOf f.code = f := by
  have hbit (i : Fin 8) : bitAt f.code i = f.bits i := by
    rw [f.code_eq_ofBits]
    exact bitAt_ofBits f.bits i
  obtain ⟨_, _, _, _, _, _, _, _⟩ := f
  exact (FindingFlags.mk.injEq ..).mpr
    ⟨hbit 0, hbit 1, hbit 2, hbit 3, hbit 4, hbit 5, hbit 6, hbit 7⟩

theorem findingClassCode_lt (c : FindingClass) : c.code < 4 := by cases c <;> decide

theorem findingClassOf_of_mod {n : Nat} {c : FindingClass} (h : n % 4 = c.code) : findingClassOf n = c := by
  unfold findingClassOf
  rw [h]
  cases c <;> rfl

theorem gradeCode_lt (g : Grade) : g.code < 3 := by cases g <;> decide

theorem gradeOf_code (g : Grade) : gradeOf g.code = g := by cases g <;> rfl

/-- The five marks of a VERDICT in the order of their bits. -/
def Verdict.bits (v : Verdict) : Fin 5 → Bool :=
  ![v.incomplete, v.truncated, v.unverified, v.late, v.test]

/-- Byte 16 of a VERDICT body (R206). -/
def Verdict.flagCode (v : Verdict) : Nat :=
  bitValue v.incomplete 0 + bitValue v.truncated 1 + bitValue v.unverified 2 + bitValue v.late 3
    + bitValue v.test 4

theorem Verdict.flagCode_eq_ofBits (v : Verdict) : v.flagCode = Nat.ofBits v.bits :=
  (Fin.sum_univ_five _).symm.trans (sum_bitValue v.bits)

theorem Verdict.flagCode_lt (v : Verdict) : v.flagCode < 32 := by
  rw [v.flagCode_eq_ofBits]
  exact Nat.ofBits_lt_two_pow v.bits

theorem Verdict.bitAt_flagCode (v : Verdict) (i : Fin 5) : bitAt v.flagCode i = v.bits i := by
  rw [v.flagCode_eq_ofBits]
  exact bitAt_ofBits v.bits i

/-! ### CUT bodies (R205) -/

theorem cutBytes_eq_layOut (number : Nat) (position : Int) :
    cutBytes number position = layOut [(4, number), (4, bits32 position), (1, 1)] := rfl

theorem cutBytes_carries {k : Nat} {p : Int} (hk : k < 2 ^ 32) (hlo : -(2 ^ 31) ≤ p) (hhi : p < 2 ^ 31) :
    fieldAt (cutBytes k p) 0 4 = k ∧ positionAt (cutBytes k p) 4 = p ∧ (cutBytes k p).length = 9 := by
  rw [cutBytes_eq_layOut]
  exact ⟨fieldAt_layOut (k := 0) rfl rfl hk, positionAt_layOut (k := 1) rfl rfl hlo hhi, length_layOut _⟩

/-! ### FINDING bodies (R205) -/

/-- Face, class and severity in byte 3 of a FINDING body. -/
def Finding.kindCode (f : Finding) : Nat := f.face % 4 * 16 + f.cls.code * 4 + f.severity % 4

theorem Finding.kindCode_lt (f : Finding) : f.kindCode < 256 := by
  have hcls := findingClassCode_lt f.cls
  unfold Finding.kindCode
  omega

theorem Finding.kindCode_face (f : Finding) : f.kindCode / 16 % 4 = f.face % 4 := by
  have hcls := findingClassCode_lt f.cls
  unfold Finding.kindCode
  omega

theorem Finding.kindCode_cls (f : Finding) : findingClassOf (f.kindCode / 4) = f.cls := by
  have hcls := findingClassCode_lt f.cls
  refine findingClassOf_of_mod ?_
  unfold Finding.kindCode
  omega

theorem Finding.kindCode_severity (f : Finding) : f.kindCode % 4 = f.severity % 4 := by
  unfold Finding.kindCode
  omega

def Finding.fields (f : Finding) : List (Nat × Nat) :=
  [(1, f.origin), (2, f.id), (1, f.kindCode), (4, bits32 f.start), (4, bits32 f.stop),
    (3, f.colMin * 4096 + f.colMax), (1, f.peak), (2, f.lines), (1, f.flags.code)]

theorem findingBytes_eq_layOut (f : Finding) : findingBytes f = layOut f.fields := rfl

theorem length_findingBytes (f : Finding) : (findingBytes f).length = 19 := length_layOut f.fields

/-- A receiver reads every field but the marks of the record unit, which are not sent (R130). -/
theorem parseFinding_findingBytes {f : Finding} (test : Bool) (horigin : f.origin < 256)
    (hid : f.id < 65536) (hface : f.face < 4) (hseverity : f.severity < 4)
    (hstartLo : -(2 ^ 31) ≤ f.start) (hstartHi : f.start < 2 ^ 31)
    (hstopLo : -(2 ^ 31) ≤ f.stop) (hstopHi : f.stop < 2 ^ 31)
    (hcolMin : f.colMin < 4096) (hcolMax : f.colMax < 4096)
    (hpeak : f.peak < 256) (hlines : f.lines < 65536) :
    parseFinding (findingBytes f) test
      = { f with test := test, secondFace := none, late := false, merged := none } := by
  have hkind : fieldAt (layOut f.fields) 3 1 = f.kindCode := fieldAt_layOut (k := 2) rfl rfl f.kindCode_lt
  have hcols : fieldAt (layOut f.fields) 12 3 = f.colMin * 4096 + f.colMax :=
    fieldAt_layOut (k := 5) rfl rfl (by omega)
  have hflags : fieldAt (layOut f.fields) 18 1 = f.flags.code :=
    fieldAt_layOut (k := 8) rfl rfl f.flags.code_lt
  rw [findingBytes_eq_layOut]
  unfold parseFinding
  simp only [hkind, hcols, hflags, Finding.mk.injEq, and_true]
  exact ⟨fieldAt_layOut (k := 0) rfl rfl horigin, fieldAt_layOut (k := 1) rfl rfl hid,
    f.kindCode_face.trans (Nat.mod_eq_of_lt hface), f.kindCode_cls,
    f.kindCode_severity.trans (Nat.mod_eq_of_lt hseverity),
    positionAt_layOut (k := 3) rfl rfl hstartLo hstartHi,
    positionAt_layOut (k := 4) rfl rfl hstopLo hstopHi, by omega, by omega,
    fieldAt_layOut (k := 6) rfl rfl hpeak, fieldAt_layOut (k := 7) rfl rfl hlines,
    findingFlagsOf_code f.flags⟩

/-! ### VERDICT bodies (R206) -/

def Verdict.fields (v : Verdict) : List (Nat × Nat) :=
  [(4, v.number), (1, v.strand), (4, bits32 v.length), (1, v.longitudinal), (1, v.transverse),
    (1, v.corner), (1, v.minor), (1, v.maxSeverity * 16 + v.grade.code), (2, v.coverage),
    (1, v.flagCode), (2, v.total)]

theorem verdictBytes_eq_layOut (v : Verdict) : verdictBytes v = layOut v.fields := rfl

theorem length_verdictBytes (v : Verdict) : (verdictBytes v).length = 19 := length_layOut v.fields

theorem parseVerdict_verdictBytes {v : Verdict} (hnumber : v.number < 2 ^ 32) (hstrand : v.strand < 256)
    (hlengthLo : 0 ≤ v.length) (hlengthHi : v.length < 2 ^ 31) (hlongitudinal : v.longitudinal < 256)
    (htransverse : v.transverse < 256) (hcorner : v.corner < 256) (hminor : v.minor < 256)
    (hseverity : v.maxSeverity < 16) (hcoverage : v.coverage < 65536) (htotal : v.total < 65536) :
    parseVerdict (verdictBytes v) = v := by
  have hgradeLt := gradeCode_lt v.grade
  have hlength : fieldAt (layOut v.fields) 5 4 = bits32 v.length :=
    fieldAt_layOut (k := 2) rfl rfl (bits32_lt v.length)
  have hworst : fieldAt (layOut v.fields) 13 1 = v.maxSeverity * 16 + v.grade.code :=
    fieldAt_layOut (k := 7) rfl rfl (by omega)
  have hgrade : (v.maxSeverity * 16 + v.grade.code) % 16 = v.grade.code := by omega
  have hflags : fieldAt (layOut v.fields) 16 1 = v.flagCode :=
    fieldAt_layOut (k := 9) rfl rfl (v.flagCode_lt.trans (by decide))
  rw [verdictBytes_eq_layOut]
  unfold parseVerdict
  simp only [hlength, bits32_of_nonneg hlengthLo hlengthHi, hworst, hgrade, gradeOf_code, hflags]
  refine (Verdict.mk.injEq ..).mpr ?_
  exact ⟨fieldAt_layOut (k := 0) rfl rfl hnumber, fieldAt_layOut (k := 1) rfl rfl hstrand, rfl,
    fieldAt_layOut (k := 3) rfl rfl hlongitudinal, fieldAt_layOut (k := 4) rfl rfl htransverse,
    fieldAt_layOut (k := 5) rfl rfl hcorner, fieldAt_layOut (k := 6) rfl rfl hminor, by omega, rfl,
    fieldAt_layOut (k := 8) rfl rfl hcoverage, v.bitAt_flagCode 0, v.bitAt_flagCode 1,
    v.bitAt_flagCode 2, v.bitAt_flagCode 3, v.bitAt_flagCode 4,
    fieldAt_layOut (k := 10) rfl rfl htotal⟩

/-! ### The statement -/

/-- Settles O32: each body is its fields laid one behind the other, and each field is read from behind the
ones before it. -/
theorem bodiesCarryTheirFields : Obligations.BodiesCarryTheirFields := by
  refine ⟨fun k p => cutBytes_carries, ?finding, ?verdict⟩
  case finding =>
    intro f horigin hid hface hseverity hstartLo hstartHi hstopLo hstopHi hcolMin hcolMax hpeak hlines
      hsecond hlate hmerged
    refine ⟨?_, length_findingBytes f⟩
    rw [parseFinding_findingBytes f.test horigin hid hface hseverity hstartLo hstartHi hstopLo hstopHi
      hcolMin hcolMax hpeak hlines, ← hsecond, ← hlate, ← hmerged]
  case verdict =>
    intro v hnumber hstrand hlengthLo hlengthHi hlongitudinal htransverse hcorner hminor hseverity
      hcoverage htotal
    exact ⟨parseVerdict_verdictBytes hnumber hstrand hlengthLo hlengthHi hlongitudinal htransverse
      hcorner hminor hseverity hcoverage htotal, length_verdictBytes v⟩

end Sys2Proof.Machine
end

section
/-! SUPPORT. The queue of waiting commands (O1, O2), `State.pending`, not the record unit's pending list: no operation
of the node writes it, and each command answers the state that its operation leaves. -/

namespace Sys2Proof.Machine

/-! ### Record unit, billet unit and horizon unit -/

@[simp] theorem State.handFrame_pending (s : State) (f : TxFrame) :
    (s.handFrame f).pending = s.pending := by
  obtain ⟨x, d, e⟩ := s.handFrame_footprint f
  rw [e]

@[simp] theorem State.markMove_pending (s : State) (dir : Direction) (before : Int) :
    (s.markMove dir before).pending = s.pending := by
  obtain ⟨m, d, e⟩ := s.markMove_footprint dir before
  rw [e]

@[simp] theorem State.handEntry_pending (s : State) (x : Entry) :
    (s.handEntry x).pending = s.pending := by
  obtain ⟨r, b, m, d, e⟩ := s.handEntry_footprint x
  rw [e]

@[simp] theorem State.closeGap_pending (s : State) (face subject : Nat) (start stop : Int) :
    (s.closeGap face subject start stop).pending = s.pending := by
  obtain ⟨r, e⟩ := s.closeGap_footprint face subject start stop
  rw [e]

@[simp] theorem State.verdictDecision_pending (s : State) (v : Setup) :
    (s.verdictDecision v).pending = s.pending := by
  obtain ⟨b, x, d, e⟩ := s.verdictDecision_footprint v
  rw [e]

@[simp] theorem State.takeCut_pending (s : State) (v : Setup) (received : Bool) (number : Nat)
    (position : Int) : (s.takeCut v received number position).pending = s.pending := by
  obtain ⟨r, b, x, d, c, e⟩ := s.takeCut_footprint v received number position
  rw [e]

@[simp] theorem State.hearVerdict_pending (s : State) (heard : Verdict) :
    (s.hearVerdict heard).pending = s.pending := by
  obtain ⟨b, d, e⟩ := s.hearVerdict_footprint heard
  rw [e]

@[simp] theorem State.recomputeHorizon_pending (s : State) (v : Setup) :
    (s.recomputeHorizon v).pending = s.pending := by
  obtain ⟨r, b, m, x, d, e⟩ := s.recomputeHorizon_footprint v
  rw [e]

@[simp] theorem State.recompute_pending (s : State) : s.recompute.pending = s.pending := by
  obtain ⟨own, h, r, b, m, x, d, e⟩ := s.recompute_footprint
  rw [e]

@[simp] theorem State.recomputeIfMoved_pending (s old : State) :
    (s.recomputeIfMoved old).pending = s.pending := by
  obtain ⟨p, e⟩ := s.recomputeIfMoved_reported old
  rw [e]
  rfl

@[simp] theorem State.openOwnGap_pending (s : State) (v : Setup) :
    (s.openOwnGap v).pending = s.pending := by
  obtain ⟨r, b, m, d, e⟩ := s.openOwnGap_footprint v
  rw [e]

@[simp] theorem State.coveringTest_pending (s : State) (v : Setup) :
    (s.coveringTest v).pending = s.pending := by
  obtain ⟨g, r, b, m, d, e⟩ := s.coveringTest_footprint v
  rw [e]

/-! ### Scheduler, tracer and corrector -/

@[simp] theorem State.dueTest_pending (s : State) : s.dueTest.pending = s.pending := by
  obtain ⟨h, c, e⟩ := s.dueTest_footprint
  rw [e]

@[simp] theorem State.lineBoundary_pending (s : State) (v : Setup) :
    (s.lineBoundary v).pending = s.pending := by
  obtain ⟨h, c, e⟩ := s.lineBoundary_footprint v
  rw [e]

@[simp] theorem State.startAll_pending (s : State) : s.startAll.pending = s.pending := by
  obtain ⟨h, c, k, e⟩ := s.startAll_footprint
  rw [e]

@[simp] theorem State.truncateByFault_pending (s : State) :
    s.truncateByFault.pending = s.pending := by
  obtain ⟨h, c, k, e⟩ := s.truncateByFault_footprint
  rw [e]

@[simp] theorem State.truncateCycle_pending (s : State) (i : Fin 8) (n : Nat) :
    (s.truncateCycle i n).pending = s.pending := by
  obtain ⟨h, e⟩ := s.stopReference_footprint
  unfold State.truncateCycle
  rw [e]
  dsimp only
  split <;> rfl

@[simp] theorem State.traceLine_pending (s : State) (v : Setup) (line : ProcessedLine) :
    (s.traceLine v line).pending = s.pending := by
  obtain ⟨t, k, r, b, m, x, d, e⟩ := s.traceLine_footprint v line
  rw [e]

@[simp] theorem State.discardLine_pending (s : State) (v : Setup) (line : ProcessedLine) :
    (s.discardLine v line).pending = s.pending := by
  unfold State.discardLine
  split <;> rfl

@[simp] theorem State.closeAll_pending (s : State) (v : Setup) (kind : CloseKind) :
    (s.closeAll v kind).pending = s.pending := by
  obtain ⟨i, n, r, b, m, x, d, e⟩ := s.closeAll_footprint v kind
  rw [e]

@[simp] theorem State.abortBuild_pending (s : State) : s.abortBuild.pending = s.pending := by
  obtain ⟨k, e⟩ := s.abortBuild_footprint
  rw [e]

@[simp] theorem State.correctLine_pending (s : State) (v : Setup) (line : LineInFlight)
    (raw : List (BitVec 12)) (withheld : SegMask) :
    (s.correctLine v line raw withheld).pending = s.pending := by
  obtain ⟨c, a, k, n, d, e⟩ := s.correctLine_footprint v line raw withheld
  rw [e]

/-! ### Modes -/

@[simp] theorem State.enterInspecting_pending (s : State) (v : Setup) :
    (s.enterInspecting v).pending = s.pending := by
  simp [State.enterInspecting]

@[simp] theorem State.referenceDone_pending (s : State) (v : Setup) :
    (s.referenceDone v).pending = s.pending := by
  unfold State.referenceDone
  split <;> simp

@[simp] theorem State.strandEnd_pending (s : State) (v : Setup) :
    (s.strandEnd v).pending = s.pending := by
  simp [State.strandEnd]

@[simp] theorem State.abandonNoted_pending (s : State) (v : Setup) :
    (s.abandonNoted v).pending = s.pending := by
  unfold State.abandonNoted
  split <;> rfl

@[simp] theorem State.enterHeadFault_pending (s : State) (v : Setup) :
    (s.enterHeadFault v).pending = s.pending := by
  simp [State.enterHeadFault]

@[simp] theorem State.countTimeout_pending (s : State) (v : Setup) :
    (s.countTimeout v).pending = s.pending := by
  unfold State.countTimeout
  dsimp only
  split
  · simp
  · rfl

/-! ### Commands of the head port -/

@[simp] theorem State.takeStale_pending (s : State) : s.takeStale.pending = s.pending := by
  unfold State.takeStale
  split <;> rfl

theorem State.takeLine_pending (s : State) (line : LineInFlight) (raw : List (BitVec 12))
    (withheld : SegMask) : (s.takeLine line raw withheld).pending = s.pending := by
  unfold State.takeLine
  dsimp only
  split
  · rfl
  · split <;> simp

theorem State.takeArrival_pending (s : State) (tag : BitVec 8) (raw : List (BitVec 12))
    (withheld : SegMask) : (s.takeArrival tag raw withheld).pending = s.pending := by
  unfold State.takeArrival
  split
  · exact s.takeLine_pending _ raw withheld
  · split
    · simp [State.recover]
    · exact s.takeStale_pending

theorem State.takeLineTimeout_pending (s : State) : s.takeLineTimeout.pending = s.pending := by
  unfold State.takeLineTimeout
  split
  · split
    · simp [State.timeOutLine]
    · rfl
  · rfl

theorem State.referenceFull_pending (s : State) (scope : Scope) :
    (s.referenceFull scope).pending = s.pending := by
  unfold State.referenceFull
  dsimp only
  split
  · simp [State.cycleComplete]
  · split
    · rfl
    · exact State.referenceDone_pending _ _

theorem State.takeReadoutTag_pending (s : State) (tag : BitVec 8) (raw : List (BitVec 12)) :
    (s.takeReadoutTag tag raw).pending = s.pending := by
  unfold State.takeReadoutTag State.takeReadout
  split
  · dsimp only
    split
    · exact State.referenceFull_pending _ _
    · rfl
  · exact s.takeStale_pending

theorem State.timeOutReadout_pending (s : State) (v : Setup) (r : Reference) :
    (s.timeOutReadout v r).pending = s.pending := by
  unfold State.timeOutReadout
  dsimp only
  split <;> split <;> simp [State.renewRequest]

theorem State.takeReadoutTimeout_pending (s : State) :
    s.takeReadoutTimeout.pending = s.pending := by
  unfold State.takeReadoutTimeout
  split
  · split
    · exact s.timeOutReadout_pending _ _
    · rfl
  · rfl

theorem State.takeProbeTimer_pending (s : State) : s.takeProbeTimer.pending = s.pending := by
  unfold State.takeProbeTimer
  split
  · rfl
  · split
    · dsimp only
      split <;> rfl
    · rfl

theorem State.takeProbeTimeout_pending (s : State) : s.takeProbeTimeout.pending = s.pending := by
  unfold State.takeProbeTimeout
  split <;> rfl

theorem State.takeTick_pending (s : State) : s.takeTick.pending = s.pending := by
  unfold State.takeTick
  split
  · split
    · exact State.dueTest_pending _
    · rfl
  · rfl

theorem State.takeProcessed_pending (s : State) : s.takeProcessed.pending = s.pending := by
  unfold State.takeProcessed
  split
  · dsimp only
    split <;> simp
  · rfl

/-! ### Commands of the travel unit -/

@[simp] theorem State.lineDue_pending (s : State) (v : Setup) :
    (s.lineDue v).pending = s.pending := by
  obtain ⟨g, l, m, k, d, e⟩ := s.lineDue_footprint v
  rw [e]

@[simp] theorem State.positionChanged_pending (s : State) :
    s.positionChanged.pending = s.pending := by
  unfold State.positionChanged State.raiseHighWater
  split
  · rfl
  · split <;> simp

theorem State.moveCount_pending (s : State) (dir : Direction) (step : Int) :
    (s.moveCount dir step).pending = s.pending := by
  unfold State.moveCount
  dsimp only
  split
  · rfl
  · split <;> simp

theorem State.takePair_pending (s : State) (a b : Bool) : (s.takePair a b).pending = s.pending := by
  unfold State.takePair
  dsimp only
  split
  · rfl
  · rfl
  · exact State.moveCount_pending _ _ _
  · exact State.moveCount_pending _ _ _

theorem State.takeRise_pending (s : State) : s.takeRise.pending = s.pending := by
  unfold State.takeRise
  split
  · rfl
  · dsimp only
    split
    · rfl
    · split
      · exact State.enterInspecting_pending _ _
      · rfl

theorem State.takeFall_pending (s : State) : s.takeFall.pending = s.pending := by
  unfold State.takeFall
  split
  · rfl
  · split <;> rfl

theorem State.takeDropout_pending (s : State) : s.takeDropout.pending = s.pending := by
  unfold State.takeDropout
  split
  · dsimp only
    split
    · rfl
    · split
      · exact State.strandEnd_pending _ _
      · rfl
  · rfl

theorem State.takeGate_pending (s : State) (high : Bool) :
    (s.takeGate high).pending = s.pending := by
  unfold State.takeGate
  dsimp only
  split
  · rfl
  · split
    · rfl
    · split <;> simp

theorem State.takeCandidate_pending (s : State) (v : Setup) (position : Int) :
    (s.takeCandidate v position).pending = s.pending := by
  unfold State.takeCandidate
  split
  · rfl
  · split
    · rfl
    · simp

theorem State.takeCutLevel_pending (s : State) (high : Bool) :
    (s.takeCutLevel high).pending = s.pending := by
  unfold State.takeCutLevel
  dsimp only
  split
  · rfl
  · split
    · exact State.takeCandidate_pending _ _ _
    · rfl

/-! ### The sending side -/

theorem State.tryToSend_pending (s : State) : s.tryToSend.pending = s.pending := by
  unfold State.tryToSend
  split
  · split <;> rfl
  · rfl

theorem State.loseArbitration_pending (s : State) : s.loseArbitration.pending = s.pending := by
  unfold State.loseArbitration
  split <;> rfl

theorem State.reportDrop_pending (s : State) (body : TxBody) :
    (s.reportDrop body).pending = s.pending := by
  cases body with
  | finding f n => exact s.recompute_pending
  | _ => rfl

theorem State.collide_pending (s : State) : s.collide.pending = s.pending := by
  unfold State.collide
  split
  · dsimp only
    split
    · rfl
    · split
      · rfl
      · exact State.reportDrop_pending _ _
  · rfl

theorem State.deliverNote_pending (s : State) : s.deliverNote.pending = s.pending := by
  unfold State.deliverNote
  split <;> simp

theorem State.reportSent_pending (s : State) (body : TxBody) (clearTo : Option Int) :
    (s.reportSent body clearTo).pending = s.pending := by
  cases body with
  | finding f n => exact s.recompute_pending
  | horizon =>
    unfold State.reportSent State.horizonSent
    dsimp only
    split
    · rfl
    · exact State.deliverNote_pending _
  | _ => rfl

theorem State.sentWhole_pending (s : State) : s.sentWhole.pending = s.pending := by
  unfold State.sentWhole
  split
  · dsimp only
    split
    · rfl
    · exact State.reportSent_pending _ _ _
  · rfl

theorem State.frameBegins_pending (s : State) : s.frameBegins.pending = s.pending := by
  unfold State.frameBegins
  split <;> rfl

theorem State.firstIdle_pending (s : State) : s.firstIdle.pending = s.pending := by
  unfold State.firstIdle
  split <;> rfl

/-! ### Frames from peers -/

@[simp] theorem State.hear_pending (s : State) (sender : Nat) :
    (s.hear sender).pending = s.pending := by
  unfold State.hear
  split <;> rfl

@[simp] theorem State.liveChanged_pending (s : State) : s.liveChanged.pending = s.pending := by
  unfold State.liveChanged
  split <;> simp

@[simp] theorem State.testFace_pending (s : State) (sender face : Nat) :
    (s.testFace sender face).pending = s.pending := by
  unfold State.testFace
  split <;> rfl

@[simp] theorem State.handLeavingGap_pending (s : State) (p : Peer) :
    (s.handLeavingGap p).pending = s.pending := by
  unfold State.handLeavingGap
  split <;> simp

@[simp] theorem State.reportMissed_pending (s : State) (missed sender : Nat) (a : Option Int)
    (b : Int) : (s.reportMissed missed sender a b).pending = s.pending := by
  unfold State.reportMissed
  split <;> simp

theorem State.takeCutFrame_pending (h : FrameHead) (body : List Byte) (s : State) :
    (State.takeCutFrame h body s).pending = s.pending := by
  unfold State.takeCutFrame State.placeCut
  split
  · rfl
  · split
    · split <;> simp
    · rfl

theorem State.placeFinding_pending (s : State) (p : Peer) (offset : Int) (f : Finding) :
    (s.placeFinding p offset f).pending = s.pending := by
  unfold State.placeFinding
  dsimp only
  split <;> simp

theorem State.takeFindingFrame_pending (h : FrameHead) (body : List Byte) (s : State) :
    (State.takeFindingFrame h body s).pending = s.pending := by
  unfold State.takeFindingFrame State.takePeerFinding
  split
  · split
    · simp
    · split
      · simp
      · rw [State.placeFinding_pending, State.hear_pending]
  · rfl

@[simp] theorem State.stepOffset_pending (s : State) (v : Setup) (p : Peer) (offset : Int) :
    (s.stepOffset v p offset).pending = s.pending := by
  unfold State.stepOffset
  split <;> rfl

@[simp] theorem State.stepNote_pending (s : State) (sender : Nat) (offset : Int)
    (note : Option (Int × Int)) : (s.stepNote sender offset note).pending = s.pending := by
  unfold State.stepNote
  split <;> simp

@[simp] theorem State.stepCovering_pending (s : State) (p : Peer) (covering : Bool)
    (clearTo : Int) : (s.stepCovering p covering clearTo).pending = s.pending := by
  unfold State.stepCovering
  split <;> simp

@[simp] theorem State.fiveSteps_pending (s : State) (v : Setup) (p : Peer) (b : HorizonBody) :
    (s.fiveSteps v p b).pending = s.pending := by
  unfold State.fiveSteps
  dsimp only
  split <;> simp

@[simp] theorem State.ensurePeer_pending (s : State) (sender : Nat) :
    (s.ensurePeer sender).pending = s.pending := by
  unfold State.ensurePeer
  split
  · exact s.hear_pending sender
  · split <;> rfl

theorem State.takeHorizonFrame_pending (h : FrameHead) (body : List Byte) (s : State) :
    (State.takeHorizonFrame h body s).pending = s.pending := by
  unfold State.takeHorizonFrame
  split
  · rfl
  · dsimp only
    split
    · split <;> simp
    · simp

theorem State.takeVerdictFrame_pending (h : FrameHead) (body : List Byte) (s : State) :
    (State.takeVerdictFrame h body s).pending = s.pending := by
  unfold State.takeVerdictFrame
  split <;> simp

theorem State.takeAnnounce_pending (s : State) (sender face : Nat) :
    (s.takeAnnounce sender face).pending = s.pending := by
  unfold State.takeAnnounce
  split
  · split <;> simp
  · dsimp only
    split <;> simp

theorem State.takeAnnounceFrame_pending (h : FrameHead) (body : List Byte) (s : State) :
    (State.takeAnnounceFrame h body s).pending = s.pending := by
  unfold State.takeAnnounceFrame
  split
  · rfl
  · split
    · rw [State.takeAnnounce_pending, State.hear_pending]
    · exact s.hear_pending _

/-! ### Timers of the horizon unit and of the mode controller -/

theorem State.takeSilence_pending (s : State) (id : Nat) :
    (s.takeSilence id).pending = s.pending := by
  unfold State.takeSilence State.silence
  split
  · rfl
  · split
    · dsimp only
      split <;> simp
    · rfl

theorem State.takeHorizonTimer_pending (s : State) : s.takeHorizonTimer.pending = s.pending := by
  unfold State.takeHorizonTimer
  split
  · split
    · exact State.handFrame_pending _ _
    · rfl
  · rfl

theorem State.takeAnnounceTimer_pending (s : State) :
    s.takeAnnounceTimer.pending = s.pending := by
  unfold State.takeAnnounceTimer
  split
  · rfl
  · split
    · dsimp only
      split
      · rfl
      · exact State.handFrame_pending _ _
    · rfl

/-! ### Frames from stations, and the end of any frame -/

theorem State.acceptSetup_pending (s : State) (v : Setup) :
    (s.acceptSetup v).pending = s.pending := by
  simp [State.acceptSetup, State.setupHorizon, State.setupBlocks, State.setupTravel]

theorem State.takeStatusReqFrame_pending (h : FrameHead) (body : List Byte) (s : State) :
    (State.takeStatusReqFrame h body s).pending = s.pending := by
  unfold State.takeStatusReqFrame
  split
  · rfl
  · dsimp only
    split <;> simp

theorem FrameClass.hand_pending (c : FrameClass) (h : FrameHead) (body : List Byte) (s : State) :
    (c.hand h body s).pending = s.pending := by
  cases c with
  | cut => exact State.takeCutFrame_pending h body s
  | finding => exact State.takeFindingFrame_pending h body s
  | horizon => exact State.takeHorizonFrame_pending h body s
  | verdict => exact State.takeVerdictFrame_pending h body s
  | announce => exact State.takeAnnounceFrame_pending h body s
  | setup => exact s.acceptSetup_pending _
  | statusReq => exact State.takeStatusReqFrame_pending h body s
  | status | build | undefined => rfl

theorem State.receive_pending (s : State) (c : FrameClass) (f : RxFrame) :
    (s.receive c f c.hand).pending = s.pending := by
  unfold State.receive
  split
  · rfl
  · split
    · exact s.firstIdle_pending
    · split
      · rfl
      · rfl
      · rfl
      · exact c.hand_pending _ _ _

/-! ### Resets -/

theorem State.endReset_pending (s : State) (p : Straps) (cause : ResetCause) :
    (s.endReset p cause).pending = s.pending := by
  rw [endReset_eq]
  rfl

/-! ### Every command -/

/-- `o` is a next state whose queue of waiting commands is that of `s`. -/
def AnswersWithQueueOf (s : State) (o : Host.Outcome State Fault Refusal) : Prop :=
  ∃ t, o = .next t ∧ t.pending = s.pending

theorem event_answersWithQueueOf {f : State → State} (hf : ∀ u, (f u).pending = u.pending)
    (dt : Nat) (s : State) : AnswersWithQueueOf s (event dt f s) := by
  refine ⟨_, rfl, ?_⟩
  split
  · exact s.begin_pending dt
  · exact hf (s.begin dt)

theorem inputEvent_answersWithQueueOf {f : State → State} (hf : ∀ u, (f u).pending = u.pending)
    (dt : Nat) (set : Pins → Pins) (s : State) :
    AnswersWithQueueOf s (inputEvent dt set f s) := by
  refine ⟨_, rfl, ?_⟩
  dsimp only
  split
  · rfl
  · exact hf _

theorem exec_resetEnd_answersWithQueueOf (dt : Nat) (p : Straps) (s : State) :
    AnswersWithQueueOf s (exec (.resetEnd dt p) s) := by
  cases hr : s.resetting with
  | none => exact ⟨_, exec_resetEnd_running hr dt p, s.begin_pending dt⟩
  | some cause => exact ⟨_, exec_resetEnd_resetting hr dt p, s.endReset_pending p cause⟩

theorem exec_answersWithQueueOf (c : Instr) (s : State) : AnswersWithQueueOf s (exec c s) := by
  have frame (cl : FrameClass) (dt : Nat) (f : RxFrame) :
      AnswersWithQueueOf s (exec (cl.command dt f) s) :=
    exec_command cl dt f s ▸ event_answersWithQueueOf (State.receive_pending · cl f) dt s
  cases c with
  | encoderTransition dt a b =>
    rw [exec_encoderTransition]
    exact inputEvent_answersWithQueueOf (State.takePair_pending · a b) dt _ s
  | strandRise dt =>
    rw [exec_strandRise]
    refine inputEvent_answersWithQueueOf (fun u => ?_) dt _ s
    split
    · rfl
    · exact u.takeRise_pending
  | strandFall dt =>
    rw [exec_strandFall]
    refine inputEvent_answersWithQueueOf (fun u => ?_) dt _ s
    split
    · exact u.takeFall_pending
    · rfl
  | gateChange dt high =>
    rw [exec_gateChange]
    exact inputEvent_answersWithQueueOf (State.takeGate_pending · high) dt _ s
  | cutInputEdge dt high =>
    rw [exec_cutInputEdge]
    exact inputEvent_answersWithQueueOf (State.takeCutLevel_pending · high) dt _ s
  | dropoutTimerExpiry dt => exact event_answersWithQueueOf State.takeDropout_pending dt s
  | lineArrival dt tag raw w | probeArrival dt tag raw w =>
    exact event_answersWithQueueOf (State.takeArrival_pending · tag raw w) dt s
  | lineTimeout dt => exact event_answersWithQueueOf State.takeLineTimeout_pending dt s
  | referenceReadout dt tag raw =>
    exact event_answersWithQueueOf (State.takeReadoutTag_pending · tag raw) dt s
  | readoutTimeout dt => exact event_answersWithQueueOf State.takeReadoutTimeout_pending dt s
  | probeTimerExpiry dt => exact event_answersWithQueueOf State.takeProbeTimer_pending dt s
  | probeTimeout dt => exact event_answersWithQueueOf State.takeProbeTimeout_pending dt s
  | tick dt => exact event_answersWithQueueOf State.takeTick_pending dt s
  | processedLine dt => exact event_answersWithQueueOf State.takeProcessed_pending dt s
  | transmitTry dt => exact event_answersWithQueueOf State.tryToSend_pending dt s
  | arbitrationLost dt => exact event_answersWithQueueOf State.loseArbitration_pending dt s
  | collision dt => exact event_answersWithQueueOf State.collide_pending dt s
  | frameSentWhole dt => exact event_answersWithQueueOf State.sentWhole_pending dt s
  | cutFrame dt f => exact frame .cut dt f
  | findingFrame dt f => exact frame .finding dt f
  | horizonFrame dt f => exact frame .horizon dt f
  | verdictFrame dt f => exact frame .verdict dt f
  | announceFrame dt f => exact frame .announce dt f
  | statusFrame dt f => exact frame .status dt f
  | setupFrame dt f => exact frame .setup dt f
  | buildFrame dt f => exact frame .build dt f
  | statusReqFrame dt f => exact frame .statusReq dt f
  | frameOfUndefinedClass dt f => exact frame .undefined dt f
  | silenceTimerExpiry dt p => exact event_answersWithQueueOf (State.takeSilence_pending · p) dt s
  | horizonTimerExpiry dt => exact event_answersWithQueueOf State.takeHorizonTimer_pending dt s
  | announceTimerExpiry dt => exact event_answersWithQueueOf State.takeAnnounceTimer_pending dt s
  | newFrameBegins dt => exact event_answersWithQueueOf State.frameBegins_pending dt s
  | idleGapAfterReset dt => exact event_answersWithQueueOf State.firstIdle_pending dt s
  | powerOnReset dt => exact ⟨_, exec_powerOnReset dt s, rfl⟩
  | pinReset dt => exact ⟨_, exec_pinReset dt s, rfl⟩
  | resetEnd dt p => exact exec_resetEnd_answersWithQueueOf dt p s

/-- Settles O2: the gates every command passes answer a next state, and the operation behind each leaves the
queue as it is. -/
theorem everyCommandAnswersANextState : Obligations.EveryCommandAnswersANextState :=
  exec_answersWithQueueOf

/-! ### One step -/

theorem step_of_pending_nil {s : State} (h : s.pending = []) : step s = .next s := by
  unfold step
  rw [h]

/-- Settles O1, by the two cases of the queue. -/
theorem stepRunsTheFrontCommand : Obligations.StepRunsTheFrontCommand :=
  ⟨step_cons, fun _ => step_of_pending_nil⟩

end Sys2Proof.Machine
end
